-- ==== Sys2Proof/Word.lean ====
section
/-! DEFINITION. The word types of the cabinet link: a byte, a set of groups or detectors as its 4 bytes send it
and a set of circuits as its 12 bytes send it. -/

namespace Sys2Proof

/-- One byte of the cabinet link. -/
abbrev Byte := BitVec 8

/-- A set of groups (or of detectors) as the link carries it: number n is named when bit n − 1 is 1 (section 11.5). -/
abbrev GroupSet := BitVec 32

/-- A set of circuits as the link carries it in 12 bytes (section 11.5). -/
abbrev CircuitSet := BitVec 96

end Sys2Proof
end

