-- ==== Sys2Proof/Config.lean ====
section
/-! DEFINITION. What the part fixes once: counts of sources, queue and reply sizes, and the free values the spec
leaves open. -/

namespace Sys2Proof

/-- Driver channels 1..104 (section 5.2). -/
def Config.channels : Nat := 104

/-- Signal groups 1..32 (section 5.2). -/
def Config.groups : Nat := 32

/-- Lamp circuits 1..96 (section 5.2). -/
def Config.circuits : Nat := 96

/-- Cables 1..16 (section 5.2). -/
def Config.cables : Nat := 16

/-- Detectors 1..24 (section 5.2). -/
def Config.detectors : Nat := 24

/-- Plan slots 1..8 (section 5.2). -/
def Config.slots : Nat := 8

/-- The notice queue holds at most 48 entries (R167). -/
def Config.queueMax : Nat := 48

/-- A reply body holds at most 240 bytes (R183), and the largest body length is 240 (R184). -/
def Config.bodyMax : Nat := 240

/-- Content bytes of one part of a read in parts (R183). -/
def Config.partBytes : Nat := 236

/-- The product number of the IDENT reply (R184). -/
def Config.product : Nat := 9632

/-- FREE VALUE. What the load finds in an area that an abandoned or mismatched write left uncertain: "its earlier image,
the new one, or a mixture that its CRC will not pass" (R176, R174). The number picks among those outcomes; the argument
is State's counter of free values. It has no body: nothing can be proved of its value (log 8). -/
opaque Config.tornArea : Nat → Nat

/-- FREE VALUE. What a one-byte count of a reply carries for a count above 255: the pair count of CABLE_READ and the
confirmed pair count of FAULT_READ can exceed their byte, and the spec states no value there (section 11.8, log 30). -/
opaque Config.countByte : Nat → Byte

end Sys2Proof
end

