-- ==== Sys2Proof/Syntax.lean ====
section
/-! DEFINITION. The commands of the block, one constructor per row of spec/opcode_table.json, with the operands the
rules give them. The table gives no operand fields; a request row carries the fields of its body (section 11.8), an
event row the source it is about, and a row at which the outside delivers something carries what is delivered. -/

namespace Sys2Proof

/-- What is delivered at a half-cycle close (R144): the lamp-bus voltage in volts, each channel's current in mA (channel 1
first), the channels on whose cores a pattern pulse arrived, and the residual current of the cable in measurement. -/
structure Measures where
  volts    : Nat
  currents : List Nat
  sensed   : List Nat
  residual : Nat
  deriving DecidableEq, Repr

/-- The two levels of the Leakage Meter (R111). -/
inductive LeakLevel where
  | warn
  | fault
  deriving DecidableEq, Repr

/-- The commands of the 9632: requests, events and inputs, in the order of spec/opcode_table.json. -/
inductive Instr where
  | hardReset (rateFast : Bool) (address : BitVec 5)
  | powerUpLoad (failing : List Nat)
  | frameGapTimeout
  | frameReceived
  | replySent
  | linkSilenceExpiry
  | ident
  | status
  | groupRead (group : Byte)
  | circuitRead (circuit clear : Byte)
  | cableRead (cable clear part : Byte)
  | detectorRead (detector : Byte)
  | faultReadEntries (sourceKind sourceNumber start part : Byte)
  | faultReadRows (kind selector start part : Byte)
  | recordRead (sourceKind number clear : Byte)
  | storeStatus
  | noticeFetch (again : Byte)
  | latchClear (sourceKind sourceNumber kind : Byte)
  | demand (groups : GroupSet)
  | hold (duration : BitVec 16)
  | release
  | forceStage (stage : Byte)
  | planSelect (slot : Byte)
  | sync (broadcast : Bool) (hostTime : BitVec 16)
  | modeRequestDark
  | modeRequestFlash
  | modeRequestRestart
  | softReset
  | softResetAction
  | learn (circuits : CircuitSet)
  | learnCancel (circuits : CircuitSet)
  | cableTestLeak (cable : Byte)
  | cableTestCross (circuit : Byte)
  | substitute (circuit channel : Byte)
  | defClear
  | defRecord (body : List Byte)
  | defCommit (identity : BitVec 32)
  | planRecord (body : List Byte)
  | planCommit (slot : Byte) (identity : BitVec 32)
  | planErase (slot : Byte)
  | recordControl (order : Byte) (groups : GroupSet) (enable format : Byte) (detectors : GroupSet) (detEnable : Byte)
  | zeroCrossingClose (elapsed : Nat) (m : Measures)
  | timedClose (elapsed : Nat) (m : Measures)
  | shownEpisodeClosed (group : Nat)
  | conflictRaise
  | greenInFlashRaise
  | classConfirmed (circuit : Nat)
  | learningComplete (circuit : Nat)
  | frequencyDetected
  | supplyBandRaise
  | supplyBandClear
  | supplyLostRaise
  | supplyReturn
  | contactorCloseProved
  | contactorNoClose
  | deadBusProved
  | contactorOpenProved
  | contactorWeld
  | liveBusInOpen
  | unmappedCurrentRaise (channel : Nat)
  | unmappedCurrentClear (channel : Nat)
  | loopApplication (circuit ohms : Nat) (clean : Bool)
  | cableOpenRaise (circuit : Nat)
  | cableOpenClear (circuit : Nat)
  | leakMeasurementStart
  | leakMeasurementComplete
  | leakLevelRaise (cable : Nat) (level : LeakLevel)
  | leakLevelClear (cable : Nat) (level : LeakLevel)
  | patternTestStart
  | patternTestComplete
  | cableCrossRaise (source sensor : Nat)
  | cableCrossClear (source sensor : Nat)
  | detectorActivation (detector : Nat) (samples : List Bool)
  | detectorRelease (detector : Nat) (samples : List Bool)
  | detStuckOn (detector : Nat)
  | detStuckOff (detector : Nat)
  | intervalClose
  | groupStart (group : Nat)
  | redAmberEnd (group : Nat)
  | minGreenElapsed (group : Nat)
  | amberEnd (group : Nat)
  | clearanceEnd (group : Nat)
  | clearanceFlashHalf (group : Nat)
  | flashHalf
  | changePointReached
  | cycleWrap
  | syncCorrection
  | gapOut (group : Nat)
  | stageMinReached
  | stageMaxReached
  | stageEndDecision
  | holdExpired
  | forcedStageRequest
  | autoStart
  | startFlashTimeout
  | enterRun
  | allRedExpired
  | storeWriteEnd (matched : Bool)
  | storeWriteTimeExpired
  | byteReceived (byte : Byte)
  deriving DecidableEq, Repr

end Sys2Proof
end

