-- ==== Sys2Proof/Decode.lean ====
section
/-! DEFINITION. The command a word spells by the table's bits. No row of spec/opcode_table.json gives bits (the table's
"fields" are empty and no row has a mask), so no word spells a command; what the link's bytes spell is read by the frame
receiver (R180, R181; Machine/Frames.lean). -/

namespace Sys2Proof

/-- The command that the bits `w` spell: none, since the table gives no row any bits. -/
def decodeTableWord (_nbits _w : Nat) : Option Instr := none

end Sys2Proof
end

