-- ==== Sys2Proof/Machine/Types.lean ====
section
/-! DEFINITION. The kinds of data the blocks hold: names of states, classes, kinds and severities, definition records,
plans, and the runtime record of each source. State.lean puts them together. -/

namespace Sys2Proof.Machine

/-- Values keyed by a number (a group, a circuit, a pair ...), numbers strictly rising. -/
abbrev Table (α : Type) := List (Nat × α)

/-- The kinds of signal group (R5). -/
inductive GroupKind where
  | vehicle
  | arrow
  | pedestrian
  deriving DecidableEq, Repr

/-- The role of a circuit in its group (R6). -/
inductive Role where
  | red
  | amber
  | green
  deriving DecidableEq, Repr

/-- The lamp types (R6). -/
inductive LampType where
  | incandescent
  | led
  deriving DecidableEq, Repr

/-- The kinds of detector (R8). -/
inductive DetKind where
  | vehicle
  | pedestrian
  | priority
  deriving DecidableEq, Repr

/-- The class modes of a detector (R8, R76). -/
inductive ClassMode where
  | presenceLonger
  | gapLonger
  deriving DecidableEq, Repr

/-- The severities, in ascending order (R133). -/
inductive Severity where
  | ignore
  | alarm
  | lockout
  | flash
  | flashNow
  | dark
  deriving DecidableEq, Repr

/-- The fault kinds (R129), in the order of their codes (section 11.7). -/
inductive FaultKind where
  | lampPartial
  | lampOut
  | lampOver
  | offCurrent
  | cableOpen
  | cableCross
  | intermittent
  | learnRejected
  | leakWarn
  | leakFault
  | detStuckOn
  | detStuckOff
  | unmappedCurrent
  | linkSilent
  | conflict
  | intergreenShort
  | greenInFlash
  | supplyBand
  | supplyLost
  | contactorNoClose
  | contactorWeld
  | allLocked
  | definitionInvalid
  | storeFault
  | referencesLost
  deriving DecidableEq, Repr

/-- The row selectors of the severity table (R10), in the order of their codes (section 11.7). -/
inductive RowSel where
  | none
  | vRed
  | vAmber
  | vGreen
  | pRed
  | pGreen
  | greenInvolved
  | other
  deriving DecidableEq, Repr

/-- The source of a fault (R129). -/
inductive Source where
  | junction
  | group (n : Nat)
  | circuit (n : Nat)
  | cable (n : Nat)
  | detector (n : Nat)
  | channel (n : Nat)
  deriving DecidableEq, Repr

/-! ### Definition records, with their fields as received (a default marker stays the marker, R3) -/

/-- The junction record (R4). -/
structure JunctionRec where
  vn : Nat
  autoStart : Bool
  startFlash : Nat
  startRed : Nat
  clearRed : Nat
  confirm : Nat
  intermittent : Nat
  cableRaise : Nat
  cableClear : Nat
  linkSilence : Nat
  fallback : Nat
  deriving DecidableEq, Repr

/-- A group record (R5). -/
structure GroupRec where
  kind : GroupKind
  minGreen : Nat
  amber : Nat
  redAmber : Nat
  clearance : Nat
  unitExt : Nat
  recalls : Bool
  deriving DecidableEq, Repr

/-- A circuit record (R6). -/
structure CircuitRec where
  group : Nat
  role : Role
  channel : Nat
  cable : Nat
  lampType : LampType
  lamps : Nat
  rated : Nat
  offLimit : Nat
  loopTest : Bool
  crossTest : Bool
  deriving DecidableEq, Repr

/-- A cable record (R7). -/
structure CableRec where
  warn : Nat
  fault : Nat
  deriving DecidableEq, Repr

/-- A detector record (R8). -/
structure DetectorRec where
  kind : DetKind
  filter : Nat
  demandSet : GroupSet
  extendSet : GroupSet
  maxPresence : Nat
  maxAbsence : Nat
  classMode : ClassMode
  threshold : Nat
  deriving DecidableEq, Repr

/-- A conflict record: the intergreens I(i→j) and I(j→i) of its pair i < j (R9). -/
structure ConflictRec where
  ij : Nat
  ji : Nat
  deriving DecidableEq, Repr

/-- A set of definition records with at most one per key (R2): the staging area, or the live definition (R1). Conflicts are
keyed 256 × i + j, severities 256 × fault kind code + row selector code. -/
structure DefSet where
  junction : Option JunctionRec
  groups : Table GroupRec
  circuits : Table CircuitRec
  cables : Table CableRec
  detectors : Table DetectorRec
  conflicts : Table ConflictRec
  severities : Table Severity
  deriving DecidableEq, Repr

/-- The set that holds no record. -/
def DefSet.empty : DefSet := ⟨none, [], [], [], [], [], []⟩

/-- One definition record with its key (R3 to R10). -/
inductive DefRecord where
  | junction (r : JunctionRec)
  | group (n : Nat) (r : GroupRec)
  | circuit (n : Nat) (r : CircuitRec)
  | cable (n : Nat) (r : CableRec)
  | detector (n : Nat) (r : DetectorRec)
  | conflict (i j : Nat) (r : ConflictRec)
  | severity (kind : FaultKind) (row : RowSel) (sev : Severity)
  deriving DecidableEq, Repr

/-! ### Plans -/

/-- The plan modes (chapter 3). -/
inductive PlanMode where
  | fixed
  | actuated
  deriving DecidableEq, Repr

/-- One stage of a plan record, as received (R44). -/
structure Stage where
  green : GroupSet
  always : Bool
  maxGreen : Nat
  change : Nat
  deriving DecidableEq, Repr

/-- A plan record (R44). -/
structure Plan where
  mode : PlanMode
  cycle : Nat
  stages : List Stage
  deriving DecidableEq, Repr

/-- A plan slot (R43). -/
inductive Slot where
  | empty
  | valid (plan : Plan) (identity : BitVec 32)
  | invalid (plan : Plan) (identity : BitVec 32)
  deriving DecidableEq, Repr

/-! ### Link Interface -/

/-- The receiver's states (11.2). -/
inductive RxPhase where
  | hunt
  | header
  | body
  | check
  deriving DecidableEq, Repr

/-- A reply in progress: ADDR, KIND and body (R182). -/
structure Reply where
  addr : Byte
  kind : Byte
  body : List Byte
  deriving DecidableEq, Repr

/-- Where a SOFT_RESET stands: not asked, replied and waiting for the reply's last byte, or owed (R181, R143). -/
inductive SoftResetStage where
  | none
  | replying
  | owed
  deriving DecidableEq, Repr

/-- The held read of a read in parts: KIND, request body apart from the part number, content (R183). -/
structure HeldRead where
  kind : Nat
  body : List Byte
  content : List Byte
  deriving DecidableEq, Repr

/-- The link silence timer's states (R185). -/
inductive SilenceState where
  | off
  | running
  | expired
  deriving DecidableEq, Repr

/-- What the LI holds. -/
structure Link where
  rxPhase : RxPhase
  rxBytes : List Byte
  reply : Option Reply
  softReset : SoftResetStage
  held : Option HeldRead
  addrStrap : BitVec 5
  rateStrap : Bool
  silence : SilenceState
  remaining : Nat
  deriving DecidableEq, Repr

/-- What the DT hold (R1, R2). -/
structure Definitions where
  live : DefSet
  valid : Bool
  identity : BitVec 32
  staging : DefSet
  deriving DecidableEq, Repr

/-- The origins of a group's demand (R53). -/
structure Origins where
  detector : Bool
  link : Bool
  recalls : Bool
  deriving DecidableEq, Repr

/-- A group's extension state (R55). -/
structure Ext where
  timer : Nat
  presence : Bool
  deriving DecidableEq, Repr

/-- What the SC holds (R43, R44, R50). `owed` marks a ds of cycle clock whose advance is left to SYNC_CORRECTION and
`arrivals` the change points arrived at and not yet taken: the model's own (log 16). -/
structure Stages where
  slots : Table Slot
  staging : Option Plan
  current : Option Nat
  pending : Option Nat
  stage : Option Nat
  established : Bool
  elapsed : Nat
  clock : Nat
  delta : Int
  allowance : Nat
  hold : Nat
  forced : Option Nat
  demand : Table Origins
  ext : Table Ext
  owed : Bool
  arrivals : List Nat
  deriving DecidableEq, Repr

/-- The aspect states of a group (R21). -/
inductive Aspect where
  | red
  | redAmber
  | green
  | amber
  | dark
  | clearance
  deriving DecidableEq, Repr

/-- A group's GS record (R21). `halves` counts the halves of a clearance flash begun after the first (R25). -/
structure GroupRun where
  aspect : Aspect
  timer : Nat
  greenStart : Option Nat
  greenEnd : Nat
  minElapsed : Bool
  lockHeld : Bool
  inTarget : Bool
  halves : Nat
  deriving DecidableEq, Repr

/-- What the GS holds: the records, the green set of the stage in force (R28), whether its establishment is still to be
reported (R33), and the flash pattern's half (R37). -/
structure Sequencer where
  groups : Table GroupRun
  requested : Option GroupSet
  reportOwed : Bool
  flashTimer : Nat
  flashLit : Bool
  deriving DecidableEq, Repr

/-- A detector's DU record (R66); levels are true for PRESENT. `raw` is the latest sample (R78). -/
structure DetRun where
  level : Bool
  raw : Bool
  run : Nat
  presence : Nat
  gap : Option Nat
  absence : Nat
  activations : Nat
  occupied : Nat
  classCount : Nat
  deriving DecidableEq, Repr

/-- What the DU holds; `intervalStart` is the uptime at which the interval in progress began (R75). -/
structure Detectors where
  dets : Table DetRun
  intervalStart : Nat
  deriving DecidableEq, Repr

/-- A channel: command and state, true for ON (R152), and its unmapped-current watch (R156). -/
structure Channel where
  command : Bool
  state : Bool
  above : Nat
  below : Nat
  raised : Bool
  deriving DecidableEq, Repr

/-- What the OB hold: the channels, the time since the last accepted crossing in µs (R145), and whether the closes are
being timed (R144). -/
structure Banks where
  channels : Table Channel
  sinceCrossing : Nat
  timedRunning : Bool
  deriving DecidableEq, Repr

/-- The lamp classes (R80). -/
inductive LampClass where
  | unproven
  | proven
  | partly
  | out
  | over
  | darkOk
  | offCurrent
  deriving DecidableEq, Repr

/-- The lamp data recorded with a learned reference (R80). -/
structure LampData where
  lampType : LampType
  lamps : Nat
  rated : Nat
  deriving DecidableEq, Repr

/-- A circuit's PU record (R80). `recorded` is absent exactly for origin NOMINAL. -/
structure CircuitRun where
  channelOn : Bool
  flashing : Bool
  settle : Nat
  firstOn : Bool
  filter : Nat
  latestS : Nat
  latestC : Nat
  lit : Nat
  candidate : Option LampClass
  counter : Nat
  confirmed : LampClass
  lastOn : Option LampClass
  lastOff : Option LampClass
  reference : Nat
  recorded : Option LampData
  learning : Bool
  learnCount : Nat
  learnSum : Nat
  episodes : Nat
  showing : Bool
  deriving DecidableEq, Repr

/-- A LEARNED entry of the reference table (R102). -/
structure RefEntry where
  reference : Nat
  lamp : LampData
  deriving DecidableEq, Repr

/-- What the PU holds; `kept` are entries kept by circuit number while no definition is live (R177). -/
structure Proving where
  circuits : Table CircuitRun
  kept : Table RefEntry
  deriving DecidableEq, Repr

/-- A circuit's dark record (R104); `due` marks a loop application that has fallen due (R105). -/
structure Dark where
  age : Nat
  time : Nat
  phase : Nat
  due : Bool
  deriving DecidableEq, Repr

/-- A loop result (R105). -/
inductive LoopResult where
  | continuous
  | opened
  | indeterminate
  deriving DecidableEq, Repr

/-- A loop-tested circuit's last result and run timers (R105, R106). -/
structure LoopRun where
  last : Option LoopResult
  openRun : Nat
  clearRun : Nat
  deriving DecidableEq, Repr

/-- One level's streaks and raised flag (R111). -/
structure LevelRun where
  above : Nat
  below : Nat
  raised : Bool
  deriving DecidableEq, Repr

/-- A cable's leakage record (R111). -/
structure LeakRun where
  last : Option Nat
  warn : LevelRun
  fault : LevelRun
  crossings : Nat
  deriving DecidableEq, Repr

/-- A sensor of a pattern test (R113). -/
structure Sensor where
  circuit : Nat
  count : Nat
  excluded : Bool
  deriving DecidableEq, Repr

/-- A pattern test in progress (R113); `draw` lists bits 1 to 64 in order. -/
structure PatternTest where
  source : Nat
  sensors : List Sensor
  draw : List Bool
  index : Nat
  deriving DecidableEq, Repr

/-- A pair record (R113). -/
structure PairRun where
  positive : Nat
  negative : Nat
  crossed : Bool
  deriving DecidableEq, Repr

/-- What the CSU holds (R104, R107, R108, R111, R113). Pairs are keyed 256 × source + sensor. -/
structure CableUnit where
  dark : Table Dark
  loops : Table LoopRun
  measuring : Option Nat
  dwelt : Nat
  residual : Nat
  leakCursor : Nat
  leakList : List Nat
  leaks : Table LeakRun
  lfsr : BitVec 16
  test : Option PatternTest
  crossCursor : Nat
  crossList : List Nat
  pairs : Table PairRun
  deriving DecidableEq, Repr

/-- A green episode's states in the shown view (R123). -/
inductive Episode where
  | closed
  | showing
  | gap
  deriving DecidableEq, Repr

/-- A group's shown-green record (R123); `ended` is the age in closes of its shown green end. -/
structure ShownRun where
  shown : Bool
  episode : Episode
  run : Nat
  gapLen : Nat
  first : Bool
  ended : Option Nat
  flashCount : Nat
  deriving DecidableEq, Repr

/-- What the CM holds (R123): records, and a confirm count per conflicting pair keyed 256 × i + j, i < j. -/
structure Monitor where
  groups : Table ShownRun
  pairs : Table Nat
  deriving DecidableEq, Repr

/-- The junction modes (R137). -/
inductive Mode where
  | dark
  | startFlash
  | startRed
  | run
  | clearing
  | flash
  | supplyWait
  deriving DecidableEq, Repr

/-- A fault table entry (R129); its key is the table's. `partner` is 0 where there is none. -/
structure FaultEntry where
  live : Bool
  latched : Bool
  first : Nat
  last : Nat
  row : RowSel
  sev : Severity
  partner : Nat
  deriving DecidableEq, Repr

/-- What the FRU holds (R129, R136, R137). -/
structure Response where
  table : Table FaultEntry
  lockout : List Nat
  mode : Mode
  startRequest : Bool
  autoAwaited : Bool
  modeTimer : Nat
  allRed : Option Nat
  deriving DecidableEq, Repr

/-- The contactor states (R149). -/
inductive Contactor where
  | opened
  | closing
  | closed
  | opening
  deriving DecidableEq, Repr

/-- The supply conditions (R145). -/
inductive SupplyCond where
  | lost
  | low
  | normal
  | high
  deriving DecidableEq, Repr

/-- What the SPC holds (R145 to R151). -/
structure Supply where
  contactor : Contactor
  drive : Bool
  provingTimer : Nat
  provingRun : Nat
  lostSeen : Bool
  liveRun : Nat
  deadRun : Nat
  bandRun : Nat
  normalRun : Nat
  bandRaised : Bool
  lostRun : Nat
  returnRun : Nat
  lossStanding : Bool
  volts : Nat
  condition : SupplyCond
  frequency : Option Nat
  freqCount : Nat
  freqTime : Nat
  deriving DecidableEq, Repr

/-- An end tag (R162). -/
inductive EndTag where
  | none
  | gapOut
  | maxOut
  deriving DecidableEq, Repr

/-- A capture: green start instant, served wait, and whether the format in force is EXTENDED (R160). -/
structure Capture where
  start : Nat
  wait : Option Nat
  extended : Bool
  deriving DecidableEq, Repr

/-- A group's service record (R157 to R162); formats are true for EXTENDED. -/
structure GroupService where
  greens : BitVec 32
  greenDs : BitVec 32
  served : BitVec 32
  waitDs : BitVec 32
  lastWait : Nat
  maxWait : Nat
  gapOuts : BitVec 32
  maxOuts : BitVec 32
  forced : BitVec 32
  cfgEnable : Bool
  cfgExtended : Bool
  enable : Bool
  extended : Bool
  wait : Option Nat
  capture : Option Capture
  tag : EndTag
  deriving DecidableEq, Repr

/-- A detector's service record (R164), with the kind of a defined detector (R66, log 36). -/
structure DetService where
  kind : Option DetKind
  lastActivations : Nat
  lastOccupied : Nat
  lastOccupancy : Nat
  lastEnd : Option Nat
  activations : BitVec 32
  occupied : BitVec 32
  classCount : BitVec 32
  cfgEnable : Bool
  enable : Bool
  armed : Bool
  deriving DecidableEq, Repr

/-- A queued notice (R167): of the fault entry with that key, or of the junction mode. -/
inductive Notice where
  | fault (key first partner : Nat) (cleared repeated : Bool)
  | mode (time : Nat) (entered : Mode)
  deriving DecidableEq, Repr

/-- What the RU holds (R157 to R170); `lastBatch` are the notices of the last fetch as they were sent (R169). -/
structure Recording where
  groups : Table GroupService
  dets : Table DetService
  active : Bool
  queue : List Notice
  overflow : Bool
  attn : Bool
  lastBatch : List (List Byte)
  lastOverflow : Bool
  deriving DecidableEq, Repr

/-- An area's condition (R171). -/
inductive AreaCond where
  | intact
  | damaged
  | failed
  deriving DecidableEq, Repr

/-- A pending mark, and a write's attempt (R171). -/
inductive Mark where
  | none
  | first
  | retry
  deriving DecidableEq, Repr

/-- The content of an image (R171): the definition's records and identity, a slot's plan and identity or the empty-plan
mark, or the LEARNED entries of the reference table. -/
inductive ImageContent where
  | definition (d : DefSet) (identity : BitVec 32)
  | plan (p : Option (Plan × BitVec 32))
  | references (t : Table RefEntry)
  deriving DecidableEq, Repr

/-- An image's store record and what its area holds: the content last written or loaded whole, and the contents that
abandoned or mismatched writes since then may have left in it, each of those with its own CRC-32; `crc` is the CRC-32
stored after `content` (R171, R174, R176). -/
structure Area where
  cond : AreaCond
  loadedIntact : Bool
  mark : Mark
  content : Option ImageContent
  crc : BitVec 32
  torn : List ImageContent
  deriving DecidableEq, Repr

/-- The write in flight (R171). -/
structure Flight where
  image : Nat
  copy : ImageContent
  attempt : Mark
  elapsed : Nat
  deriving DecidableEq, Repr

/-- What the STC holds (R171, R178). Images are keyed by their codes of section 11.8: definition 1, reference table 2,
plan k as k + 2; that is also the serving order of R173. -/
structure Store where
  areas : Table Area
  flight : Option Flight
  storedIdentity : Option (BitVec 32)
  deriving DecidableEq, Repr

end Sys2Proof.Machine
end

