-- ==== Sys2Proof/Machine/Bytes.lean ====
section
/-! DEFINITION. Byte order and check values (section 5.4, R180), and the packing of yes/no bytes. -/

namespace Sys2Proof.Machine

/-- n bytes of a value, little-endian (section 5.4). -/
def le : Nat → Nat → List Byte
  | 0, _ => []
  | n + 1, v => BitVec.ofNat 8 v :: le n (v / 256)

/-- The value of bytes in little-endian order. -/
def fromLE : List Byte → Nat
  | [] => 0
  | b :: r => b.toNat + 256 * fromLE r

/-- The little-endian field of `size` bytes at an offset of a body. -/
def field (body : List Byte) (off size : Nat) : Nat := fromLE ((body.drop off).take size)

/-- One byte of a number. -/
def byte (n : Nat) : Byte := BitVec.ofNat 8 n

/-- A yes/no byte. -/
def bit (b : Bool) : Byte := if b then 1 else 0

/-- One bit of the reflected CRC-32, polynomial 04C11DB7 hex (section 5.4). -/
def crc32Bit (c : BitVec 32) : BitVec 32 :=
  if c.getLsbD 0 then (c >>> 1) ^^^ 0xEDB88320#32 else c >>> 1

/-- One byte of the CRC-32. -/
def crc32Byte (c : BitVec 32) (b : Byte) : BitVec 32 :=
  crc32Bit (crc32Bit (crc32Bit (crc32Bit (crc32Bit (crc32Bit (crc32Bit (crc32Bit (c ^^^ b.setWidth 32))))))))

/-- The CRC-32: initial value all ones, result inverted (section 5.4). -/
def crc32 (bytes : List Byte) : BitVec 32 := ~~~ (bytes.foldl crc32Byte 0xFFFFFFFF#32)

/-- One bit of the CRC-16, polynomial 1021 hex, most significant bit first (R180). -/
def crc16Bit (c : BitVec 16) : BitVec 16 :=
  if c.getLsbD 15 then (c <<< 1) ^^^ 0x1021#16 else c <<< 1

/-- One byte of the CRC-16. -/
def crc16Byte (c : BitVec 16) (b : Byte) : BitVec 16 :=
  crc16Bit (crc16Bit (crc16Bit (crc16Bit (crc16Bit (crc16Bit (crc16Bit (crc16Bit (c ^^^ (b.setWidth 16 <<< 8)))))))))

/-- The CRC-16: initial value FFFF hex, no reflection and no final inversion (R180). -/
def crc16 (bytes : List Byte) : BitVec 16 := bytes.foldl crc16Byte 0xFFFF#16

/-- The CRC pair of a frame, high byte first (R180, section 11.6). -/
def crcPair (bytes : List Byte) : List Byte :=
  [BitVec.ofNat 8 ((crc16 bytes).toNat / 256), BitVec.ofNat 8 (crc16 bytes).toNat]

/-- A frame on the line: A5 hex, ADDR, LEN, KIND, body, CRC pair (section 11.6). -/
def frameBytes (addr kind : Byte) (body : List Byte) : List Byte :=
  let inner := addr :: BitVec.ofNat 8 body.length :: kind :: body
  0xA5#8 :: (inner ++ crcPair inner)

/-- The bytes a reply in progress sends (R182). -/
def replyFrame (r : Reply) : List Byte := frameBytes r.addr r.kind r.body

end Sys2Proof.Machine
end

