-- ==== Sys2Proof/Machine/Table.lean ====
section
/-! DEFINITION. The operations on keyed tables, on sets sent as bits, and on ordered lists of numbers. -/

namespace Sys2Proof.Machine

/-- The value at a number. -/
def tget? {α : Type} : Table α → Nat → Option α
  | [], _ => none
  | e :: r, k => if e.1 = k then some e.2 else tget? r k

/-- A table with a value put at a number, in its place by number, replacing what stood there. -/
def tput {α : Type} : Table α → Nat → α → Table α
  | [], k, v => [(k, v)]
  | e :: r, k, v => if k < e.1 then (k, v) :: e :: r else if k = e.1 then (k, v) :: r else e :: tput r k v

/-- A table with the value at one number changed, where there is one. -/
def tupd {α : Type} (t : Table α) (k : Nat) (f : α → α) : Table α :=
  t.map fun e => if e.1 = k then (e.1, f e.2) else e

/-- A table with every value changed, knowing its number. -/
def tmap {α β : Type} (t : Table α) (f : Nat → α → β) : Table β :=
  t.map fun e => (e.1, f e.1 e.2)

/-- The entries that satisfy a test. -/
def tkeep {α : Type} (t : Table α) (p : Nat → α → Bool) : Table α :=
  t.filter fun e => p e.1 e.2

/-- The numbers that have a value, rising. -/
def tkeys {α : Type} (t : Table α) : List Nat := t.map Prod.fst

/-- Whether a number has a value. -/
def thas {α : Type} (t : Table α) (k : Nat) : Bool := (tget? t k).isSome

/-- Whether the numbers of a table are strictly rising. -/
def tsorted {α : Type} : Table α → Bool
  | [] => true
  | [_] => true
  | e :: e' :: r => decide (e.1 < e'.1) && tsorted (e' :: r)

/-- Whether number n is named by a set sent as bits: bit n − 1 (section 11.5). -/
def inSet {w : Nat} (b : BitVec w) (n : Nat) : Bool := decide (1 ≤ n) && b.getLsbD (n - 1)

/-- The numbers a set names, rising. -/
def setList {w : Nat} (b : BitVec w) : List Nat := ((List.range w).map (· + 1)).filter (inSet b)

/-- A set as bits, from the numbers it names. -/
def setOfList (w : Nat) (l : List Nat) : BitVec w := l.foldl (fun b n => b ||| BitVec.ofNat w (2 ^ (n - 1))) 0

/-- The key of a pair of numbers. -/
def pairKey (i j : Nat) : Nat := 256 * i + j

/-- A number at the front of an ordered list of distinct numbers, removed from any later place. -/
def toFront (n : Nat) (l : List Nat) : List Nat := n :: l.filter (· ≠ n)

/-- The numbers from a cursor upward through `top`, then from 1 up to the cursor. -/
def roundFrom (cursor top : Nat) : List Nat :=
  ((List.range top).map (· + 1)).filter (cursor ≤ ·) ++ ((List.range top).map (· + 1)).filter (· < cursor)

/-- The number after n in a round of 1..top. -/
def roundNext (n top : Nat) : Nat := if n ≥ top then 1 else n + 1

/-- n + 1, held at `top`. -/
def satInc (top n : Nat) : Nat := if n < top then n + 1 else top

end Sys2Proof.Machine
end

