-- ==== Sys2Proof/Machine/Codes.lean ====
section
/-! DEFINITION. The codes the link gives to kinds, states, classes and severities (sections 11.5 to 11.8). -/

namespace Sys2Proof.Machine

/-- Fault kind codes 01 to 19 hex (section 11.7). -/
def FaultKind.code : FaultKind → Nat
  | .lampPartial => 0x01
  | .lampOut => 0x02
  | .lampOver => 0x03
  | .offCurrent => 0x04
  | .cableOpen => 0x05
  | .cableCross => 0x06
  | .intermittent => 0x07
  | .learnRejected => 0x08
  | .leakWarn => 0x09
  | .leakFault => 0x0A
  | .detStuckOn => 0x0B
  | .detStuckOff => 0x0C
  | .unmappedCurrent => 0x0D
  | .linkSilent => 0x0E
  | .conflict => 0x0F
  | .intergreenShort => 0x10
  | .greenInFlash => 0x11
  | .supplyBand => 0x12
  | .supplyLost => 0x13
  | .contactorNoClose => 0x14
  | .contactorWeld => 0x15
  | .allLocked => 0x16
  | .definitionInvalid => 0x17
  | .storeFault => 0x18
  | .referencesLost => 0x19

/-- Every fault kind. -/
def allKinds : List FaultKind :=
  [.lampPartial, .lampOut, .lampOver, .offCurrent, .cableOpen, .cableCross, .intermittent, .learnRejected, .leakWarn,
   .leakFault, .detStuckOn, .detStuckOff, .unmappedCurrent, .linkSilent, .conflict, .intergreenShort, .greenInFlash,
   .supplyBand, .supplyLost, .contactorNoClose, .contactorWeld, .allLocked, .definitionInvalid, .storeFault,
   .referencesLost]

/-- The fault kind of a code. -/
def kindOfCode? (n : Nat) : Option FaultKind := allKinds.find? (·.code == n)

/-- Row selector codes (section 11.7). -/
def RowSel.code : RowSel → Nat
  | .none => 0
  | .vRed => 1
  | .vAmber => 2
  | .vGreen => 3
  | .pRed => 4
  | .pGreen => 5
  | .greenInvolved => 6
  | .other => 7

/-- Every row selector. -/
def allRows : List RowSel := [.none, .vRed, .vAmber, .vGreen, .pRed, .pGreen, .greenInvolved, .other]

/-- The row selector of a code. -/
def rowOfCode? (n : Nat) : Option RowSel := allRows.find? (·.code == n)

/-- Severity codes, rising with the severity (R133, section 11.7). -/
def Severity.code : Severity → Nat
  | .ignore => 0
  | .alarm => 1
  | .lockout => 2
  | .flash => 3
  | .flashNow => 4
  | .dark => 5

/-- Every severity. -/
def allSeverities : List Severity := [.ignore, .alarm, .lockout, .flash, .flashNow, .dark]

/-- The severity of a code. -/
def severityOfCode? (n : Nat) : Option Severity := allSeverities.find? (·.code == n)

/-- Whether one severity is at or above another (R133). -/
def Severity.ge (a b : Severity) : Bool := decide (b.code ≤ a.code)

/-- Group kind codes (section 11.7). -/
def GroupKind.code : GroupKind → Nat
  | .vehicle => 0
  | .arrow => 1
  | .pedestrian => 2

/-- The group kind of a code. -/
def groupKindOfCode? : Nat → Option GroupKind
  | 0 => some .vehicle
  | 1 => some .arrow
  | 2 => some .pedestrian
  | _ => none

/-- Role codes (section 11.7). -/
def Role.code : Role → Nat
  | .red => 0
  | .amber => 1
  | .green => 2

/-- The role of a code. -/
def roleOfCode? : Nat → Option Role
  | 0 => some .red
  | 1 => some .amber
  | 2 => some .green
  | _ => none

/-- Lamp type codes (section 11.7). -/
def LampType.code : LampType → Nat
  | .incandescent => 0
  | .led => 1

/-- The lamp type of a code. -/
def lampTypeOfCode? : Nat → Option LampType
  | 0 => some .incandescent
  | 1 => some .led
  | _ => none

/-- Detector kind codes (section 11.7). -/
def DetKind.code : DetKind → Nat
  | .vehicle => 0
  | .pedestrian => 1
  | .priority => 2

/-- The detector kind of a code. -/
def detKindOfCode? : Nat → Option DetKind
  | 0 => some .vehicle
  | 1 => some .pedestrian
  | 2 => some .priority
  | _ => none

/-- Class mode codes (section 11.7). -/
def ClassMode.code : ClassMode → Nat
  | .presenceLonger => 0
  | .gapLonger => 1

/-- The class mode of a code. -/
def classModeOfCode? : Nat → Option ClassMode
  | 0 => some .presenceLonger
  | 1 => some .gapLonger
  | _ => none

/-- A yes/no byte read (section 11.7). -/
def yesNo? : Nat → Option Bool
  | 0 => some false
  | 1 => some true
  | _ => none

/-- Aspect codes (section 11.8). -/
def Aspect.code : Aspect → Nat
  | .red => 0
  | .redAmber => 1
  | .green => 2
  | .amber => 3
  | .dark => 4
  | .clearance => 5

/-- Lamp class codes (section 11.8). -/
def LampClass.code : LampClass → Nat
  | .unproven => 0
  | .proven => 1
  | .partly => 2
  | .out => 3
  | .over => 4
  | .darkOk => 5
  | .offCurrent => 6

/-- Junction mode codes (section 11.6). -/
def Mode.code : Mode → Nat
  | .dark => 0
  | .startFlash => 1
  | .startRed => 2
  | .run => 3
  | .clearing => 4
  | .flash => 5
  | .supplyWait => 6

/-- Supply condition codes (section 11.6). -/
def SupplyCond.code : SupplyCond → Nat
  | .lost => 0
  | .low => 1
  | .normal => 2
  | .high => 3

/-- Contactor codes (section 11.6). -/
def Contactor.code : Contactor → Nat
  | .opened => 0
  | .closing => 1
  | .closed => 2
  | .opening => 3

/-- Silence timer codes (section 11.6). -/
def SilenceState.code : SilenceState → Nat
  | .off => 0
  | .running => 1
  | .expired => 2

/-- Loop result codes, FF hex for none (section 11.8). -/
def loopCode : Option LoopResult → Nat
  | none => 0xFF
  | some .continuous => 0
  | some .opened => 1
  | some .indeterminate => 2

/-- Area condition codes (section 11.8). -/
def AreaCond.code : AreaCond → Nat
  | .intact => 0
  | .damaged => 1
  | .failed => 2

/-- Pending mark and attempt codes (section 11.8). -/
def Mark.code : Mark → Nat
  | .none => 0
  | .first => 1
  | .retry => 2

/-- Source kind codes (section 11.5). -/
def Source.code : Source → Nat
  | .junction => 0
  | .group _ => 1
  | .circuit _ => 2
  | .cable _ => 3
  | .detector _ => 4
  | .channel _ => 5

/-- A source's number; the junction's is 0 (section 11.5). -/
def Source.number : Source → Nat
  | .junction => 0
  | .group n => n
  | .circuit n => n
  | .cable n => n
  | .detector n => n
  | .channel n => n

/-- The highest number of a source kind (section 5.2), none for a code that is no source kind. -/
def sourceTop? : Nat → Option Nat
  | 0 => some 0
  | 1 => some Config.groups
  | 2 => some Config.circuits
  | 3 => some Config.cables
  | 4 => some Config.detectors
  | 5 => some Config.channels
  | _ => none

/-- Whether a number is one of a source kind's: 0 for the junction, 1 upward for the others. -/
def sourceNumberOk (code n : Nat) : Bool :=
  match sourceTop? code with
  | none => false
  | some top => if code = 0 then n == 0 else 1 ≤ n && n ≤ top

/-- The key of a fault entry: source kind, number and fault kind code, so that keys rise in the order of R132. -/
def faultKey (src : Source) (kind : FaultKind) : Nat := 65536 * src.code + 256 * src.number + kind.code

/-- The source kind code of a fault key. -/
def keySourceCode (k : Nat) : Nat := k / 65536

/-- The source number of a fault key. -/
def keyNumber (k : Nat) : Nat := k / 256 % 256

/-- The fault kind code of a fault key. -/
def keyKindCode (k : Nat) : Nat := k % 256

/-- The KIND codes of the requests (section 11.5). -/
def reqIdent : Nat := 0x01
def reqStatus : Nat := 0x02
def reqGroupRead : Nat := 0x03
def reqCircuitRead : Nat := 0x04
def reqCableRead : Nat := 0x05
def reqDetectorRead : Nat := 0x06
def reqFaultRead : Nat := 0x07
def reqRecordRead : Nat := 0x08
def reqStoreStatus : Nat := 0x09
def reqNoticeFetch : Nat := 0x10
def reqLatchClear : Nat := 0x11
def reqDemand : Nat := 0x20
def reqHold : Nat := 0x21
def reqRelease : Nat := 0x22
def reqForceStage : Nat := 0x23
def reqPlanSelect : Nat := 0x24
def reqSync : Nat := 0x25
def reqModeRequest : Nat := 0x30
def reqSoftReset : Nat := 0x31
def reqLearn : Nat := 0x40
def reqLearnCancel : Nat := 0x41
def reqCableTest : Nat := 0x42
def reqSubstitute : Nat := 0x43
def reqDefClear : Nat := 0x50
def reqDefRecord : Nat := 0x51
def reqDefCommit : Nat := 0x52
def reqPlanRecord : Nat := 0x53
def reqPlanCommit : Nat := 0x54
def reqPlanErase : Nat := 0x55
def reqRecordControl : Nat := 0x60

/-- A request kind's body length, none for a kind whose length the owning rule checks (section 11.5). -/
inductive BodyLength where
  | fixed (n : Nat)
  | var
  deriving DecidableEq, Repr

/-- The catalogue of request kinds (section 11.5). -/
def catalogue : Table BodyLength :=
  [(reqIdent, .fixed 0), (reqStatus, .fixed 0), (reqGroupRead, .fixed 1), (reqCircuitRead, .fixed 2),
   (reqCableRead, .fixed 3), (reqDetectorRead, .fixed 1), (reqFaultRead, .fixed 5), (reqRecordRead, .fixed 3),
   (reqStoreStatus, .fixed 0), (reqNoticeFetch, .fixed 1), (reqLatchClear, .fixed 3), (reqDemand, .fixed 4),
   (reqHold, .fixed 2), (reqRelease, .fixed 0), (reqForceStage, .fixed 1), (reqPlanSelect, .fixed 1),
   (reqSync, .fixed 2), (reqModeRequest, .fixed 1), (reqSoftReset, .fixed 0), (reqLearn, .fixed 12),
   (reqLearnCancel, .fixed 12), (reqCableTest, .fixed 2), (reqSubstitute, .fixed 2), (reqDefClear, .fixed 0),
   (reqDefRecord, .var), (reqDefCommit, .fixed 4), (reqPlanRecord, .var), (reqPlanCommit, .fixed 5),
   (reqPlanErase, .fixed 1), (reqRecordControl, .fixed 12)]

end Sys2Proof.Machine
end

