-- ==== Sys2Proof/Machine/Lookup.lean ====
section
/-! DEFINITION. What a definition says: resolved fields (R3 to R8), the groups that conflict and their intergreens (R9),
the severity table (R10, R14, R133) and the channel map (R18). -/

namespace Sys2Proof.Machine

/-! ### Resolved fields: the default in place of the marker (R3, R4, R6 to R8) -/

/-- A field with its marker resolved to its default. -/
def resolve (marker default v : Nat) : Nat := if v = marker then default else v

/-- start_flash_time, default 100 ds (R4). -/
def JunctionRec.startFlashTime (r : JunctionRec) : Nat := resolve 0xFFFF 100 r.startFlash
/-- start_red_time, default 50 ds (R4). -/
def JunctionRec.startRedTime (r : JunctionRec) : Nat := resolve 0xFF 50 r.startRed
/-- clear_red_time, default 30 ds (R4). -/
def JunctionRec.clearRedTime (r : JunctionRec) : Nat := resolve 0xFF 30 r.clearRed
/-- The proving confirm count K, default 8 (R4). -/
def JunctionRec.confirmCount (r : JunctionRec) : Nat := resolve 0xFF 8 r.confirm
/-- The intermittent threshold, default 5 (R4). -/
def JunctionRec.intermittentThreshold (r : JunctionRec) : Nat := resolve 0xFF 5 r.intermittent
/-- The cable raise time, default 5 s (R4). -/
def JunctionRec.cableRaiseTime (r : JunctionRec) : Nat := resolve 0xFF 5 r.cableRaise
/-- The cable clear time, default 30 s (R4). -/
def JunctionRec.cableClearTime (r : JunctionRec) : Nat := resolve 0xFFFF 30 r.cableClear
/-- The off limit, default 40 mA for INCANDESCENT and 15 mA for LED (R6). -/
def CircuitRec.offLimitMa (r : CircuitRec) : Nat :=
  resolve 0xFF (match r.lampType with | .incandescent => 40 | .led => 15) r.offLimit
/-- The nominal reference, L × rated current (R6). -/
def CircuitRec.nominal (r : CircuitRec) : Nat := r.lamps * r.rated
/-- The lamp data a learned reference is recorded with (R80). -/
def CircuitRec.lampData (r : CircuitRec) : LampData := ⟨r.lampType, r.lamps, r.rated⟩
/-- The warn level, default 10 mA (R7). -/
def CableRec.warnLevel (r : CableRec) : Nat := resolve 0xFF 10 r.warn
/-- The fault level, default 30 mA (R7). -/
def CableRec.faultLevel (r : CableRec) : Nat := resolve 0xFFFF 30 r.fault
/-- The filter sample count: the input filter (default 30 ms) divided by 5 ms and rounded up (R8, R67). -/
def DetectorRec.filterSamples (r : DetectorRec) : Nat := (resolve 0xFF 30 r.filter + 4) / 5
/-- Max presence in ds, default 10 min; 0 is off (R8, R71). -/
def DetectorRec.maxPresenceDs (r : DetectorRec) : Nat := resolve 0xFF 10 r.maxPresence * 600
/-- Max absence in ds; 0 is off (R8, R71). -/
def DetectorRec.maxAbsenceDs (r : DetectorRec) : Nat := r.maxAbsence * 36000

/-- A group's ending time: amber, clearance, or 0 for an arrow (R5). -/
def GroupRec.ending (r : GroupRec) : Nat :=
  match r.kind with
  | .vehicle => r.amber
  | .pedestrian => r.clearance
  | .arrow => 0

/-- RA of a group: the red-amber time of a VEHICLE group, 0 otherwise (R5). -/
def GroupRec.ra (r : GroupRec) : Nat :=
  match r.kind with
  | .vehicle => r.redAmber
  | .pedestrian => 0
  | .arrow => 0

/-- The rest state of a kind (R21). -/
def GroupKind.rest : GroupKind → Aspect
  | .vehicle => .red
  | .pedestrian => .red
  | .arrow => .dark

/-- Vn of a definition, none without a junction record. -/
def DefSet.vn (d : DefSet) : Option Nat := d.junction.map (·.vn)

/-- K of a definition, 8 while none is live (R156). -/
def DefSet.k (d : DefSet) : Nat := match d.junction with | some j => j.confirmCount | none => 8

/-! ### Conflicts (R9) -/

/-- I(i→j) where the pair conflicts, none where it is compatible. -/
def DefSet.intergreen? (d : DefSet) (i j : Nat) : Option Nat :=
  if i < j then (tget? d.conflicts (pairKey i j)).map (·.ij) else (tget? d.conflicts (pairKey j i)).map (·.ji)

/-- Whether two groups conflict. -/
def DefSet.conflicting (d : DefSet) (i j : Nat) : Bool := (d.intergreen? i j).isSome

/-- The groups i that conflict with j, each with I(i→j). -/
def DefSet.rivals (d : DefSet) (j : Nat) : List (Nat × Nat) :=
  d.conflicts.filterMap fun e =>
    if e.1 / 256 = j then some (e.1 % 256, e.2.ji)
    else if e.1 % 256 = j then some (e.1 / 256, e.2.ij)
    else none

/-! ### Circuits and the channel map (R6, R18) -/

/-- The circuits of a group. -/
def DefSet.circuitsOf (d : DefSet) (g : Nat) : Table CircuitRec := tkeep d.circuits fun _ r => r.group == g

/-- The circuit of a group in a role. -/
def DefSet.circuitIn? (d : DefSet) (g : Nat) (role : Role) : Option Nat :=
  (d.circuits.find? fun e => e.2.group == g && e.2.role == role).map Prod.fst

/-- The circuit a channel is mapped to (R18). -/
def DefSet.mapped? (d : DefSet) (ch : Nat) : Option Nat :=
  (d.circuits.find? fun e => e.2.channel == ch).map Prod.fst

/-- The row selector of a circuit's role class (R6). -/
def DefSet.roleRow (d : DefSet) (c : Nat) : RowSel :=
  match tget? d.circuits c with
  | none => .none
  | some r =>
    match (tget? d.groups r.group).map GroupRec.kind, r.role with
    | some .pedestrian, .red => .pRed
    | some .pedestrian, _ => .pGreen
    | _, .red => .vRed
    | _, .amber => .vAmber
    | _, .green => .vGreen

/-! ### The severity table (R10, R14, R133) -/

/-- A row's default, floor and maximum. -/
structure RowBounds where
  default : Severity
  floor : Severity
  max : Severity
  deriving DecidableEq, Repr

/-- A circuit row with maximum DARK. -/
def lampRow (default floor : Severity) : Option RowBounds := some ⟨default, floor, .dark⟩

/-- A fixed row. -/
def fixedRow (sev : Severity) : Option RowBounds := some ⟨sev, sev, sev⟩

/-- The severity table (R133); none for a selector not listed for the kind (R10). -/
def rowBounds? (k : FaultKind) (row : RowSel) : Option RowBounds :=
  match k, row with
  | .lampPartial, .vRed => lampRow .alarm .alarm
  | .lampPartial, .vAmber => lampRow .alarm .ignore
  | .lampPartial, .vGreen => lampRow .alarm .ignore
  | .lampPartial, .pRed => lampRow .alarm .alarm
  | .lampPartial, .pGreen => lampRow .alarm .ignore
  | .lampOut, .vRed => lampRow .flash .flash
  | .lampOut, .vAmber => lampRow .alarm .alarm
  | .lampOut, .vGreen => lampRow .lockout .alarm
  | .lampOut, .pRed => lampRow .lockout .lockout
  | .lampOut, .pGreen => lampRow .lockout .alarm
  | .lampOver, .vRed => lampRow .alarm .ignore
  | .lampOver, .vAmber => lampRow .alarm .ignore
  | .lampOver, .vGreen => lampRow .alarm .ignore
  | .lampOver, .pRed => lampRow .alarm .ignore
  | .lampOver, .pGreen => lampRow .alarm .ignore
  | .offCurrent, .vRed => lampRow .alarm .alarm
  | .offCurrent, .vAmber => lampRow .alarm .alarm
  | .offCurrent, .vGreen => lampRow .flashNow .flashNow
  | .offCurrent, .pRed => lampRow .alarm .alarm
  | .offCurrent, .pGreen => lampRow .flashNow .flashNow
  | .cableOpen, .vRed => lampRow .flash .flash
  | .cableOpen, .vAmber => lampRow .alarm .alarm
  | .cableOpen, .vGreen => lampRow .lockout .alarm
  | .cableOpen, .pRed => lampRow .lockout .lockout
  | .cableOpen, .pGreen => lampRow .lockout .alarm
  | .cableCross, .greenInvolved => some ⟨.flashNow, .flashNow, .dark⟩
  | .cableCross, .other => some ⟨.flash, .alarm, .dark⟩
  | .intermittent, .none => some ⟨.alarm, .ignore, .alarm⟩
  | .learnRejected, .none => some ⟨.alarm, .ignore, .alarm⟩
  | .leakWarn, .none => some ⟨.alarm, .ignore, .alarm⟩
  | .leakFault, .none => some ⟨.alarm, .alarm, .flash⟩
  | .detStuckOn, .none => some ⟨.alarm, .ignore, .alarm⟩
  | .detStuckOff, .none => some ⟨.alarm, .ignore, .alarm⟩
  | .unmappedCurrent, .none => some ⟨.flash, .alarm, .dark⟩
  | .linkSilent, .none => some ⟨.alarm, .ignore, .flash⟩
  | .conflict, .none => fixedRow .flashNow
  | .intergreenShort, .none => fixedRow .flashNow
  | .greenInFlash, .none => fixedRow .dark
  | .supplyBand, .none => fixedRow .alarm
  | .supplyLost, .none => fixedRow .alarm
  | .storeFault, .none => fixedRow .alarm
  | .referencesLost, .none => fixedRow .alarm
  | .contactorNoClose, .none => fixedRow .dark
  | .contactorWeld, .none => fixedRow .dark
  | .definitionInvalid, .none => fixedRow .dark
  | .allLocked, .none => fixedRow .flash
  | _, _ => none

/-- Whether a kind's rows are circuit rows (R10). -/
def FaultKind.circuitRow : FaultKind → Bool
  | .lampPartial | .lampOut | .lampOver | .offCurrent | .cableOpen | .cableCross | .intermittent | .learnRejected => true
  | _ => false

/-- A configured severity bounded to its row (R14). -/
def boundSeverity (k : FaultKind) (b : RowBounds) (cfg : Severity) : Severity :=
  let sev := if cfg = .lockout && !k.circuitRow then .flash else cfg
  if sev.code < b.floor.code then b.floor else if b.max.code < sev.code then b.max else sev

/-- The key of a severity record (R10). -/
def severityKey (k : FaultKind) (row : RowSel) : Nat := pairKey k.code row.code

/-- The effective severity of a row (R133): the configured one bounded, or the default; IGNORE for a row that does not
exist. -/
def DefSet.effective (d : DefSet) (k : FaultKind) (row : RowSel) : Severity :=
  match rowBounds? k row with
  | none => .ignore
  | some b =>
    match tget? d.severities (severityKey k row) with
    | none => b.default
    | some cfg => boundSeverity k b cfg

/-! ### Plans -/

/-- The plan of a VALID slot. -/
def Slot.validPlan? : Slot → Option Plan
  | .valid p _ => some p
  | .invalid _ _ => none
  | .empty => none

/-- Whether a slot is EMPTY. -/
def Slot.isEmpty : Slot → Bool
  | .empty => true
  | .valid _ _ => false
  | .invalid _ _ => false

/-- The stage min of a stage: the largest min green of its groups (R46). -/
def DefSet.stageMin (d : DefSet) (st : Stage) : Nat :=
  d.groups.foldl (fun m e => if inSet st.green e.1 then max m e.2.minGreen else m) 0

/-- The bounded stage max: lowered to 1200, then raised to the stage min (R46). -/
def DefSet.boundedMax (d : DefSet) (st : Stage) : Nat := max (min st.maxGreen 1200) (d.stageMin st)

/-- span_k of stage k: P_(k+1) − P_k, and C − P_last for the last stage (R46). -/
def Plan.span (p : Plan) (k : Nat) : Nat :=
  match p.stages[k - 1]?, p.stages[k]? with
  | some a, some b => b.change - a.change
  | some a, none => p.cycle - a.change
  | none, _ => 0

/-- Stage k of a plan, numbered from 1. -/
def Plan.stage? (p : Plan) (k : Nat) : Option Stage := if k = 0 then none else p.stages[k - 1]?

end Sys2Proof.Machine
end

