-- ==== Sys2Proof/Machine/Records.lean ====
section
/-! DEFINITION. Definition record bodies (section 11.7): their bytes, the checks a DEF_RECORD makes (R3 to R10), the
canonical serialisation and identity (R11), and the validation of staging (R13, R14). -/

namespace Sys2Proof.Machine

/-! ### Bodies -/

/-- The body of a record as section 11.7 lays it out, beginning with its record kind code. -/
def DefRecord.body : DefRecord → List Byte
  | .junction r =>
    byte 1 :: byte 0 :: (le 2 r.vn ++ [bit r.autoStart] ++ le 2 r.startFlash ++ [byte r.startRed, byte r.clearRed,
      byte r.confirm, byte r.intermittent, byte r.cableRaise] ++ le 2 r.cableClear ++ le 2 r.linkSilence
      ++ [byte r.fallback])
  | .group n r =>
    byte 2 :: byte n :: byte r.kind.code :: (le 2 r.minGreen ++ [byte r.amber, byte r.redAmber] ++ le 2 r.clearance
      ++ [byte r.unitExt, bit r.recalls])
  | .circuit n r =>
    [byte 3, byte n, byte r.group, byte r.role.code, byte r.channel, byte r.cable, byte r.lampType.code, byte r.lamps]
      ++ le 2 r.rated ++ [byte r.offLimit, bit r.loopTest, bit r.crossTest]
  | .cable n r => [byte 4, byte n, byte r.warn] ++ le 2 r.fault
  | .detector n r =>
    [byte 5, byte n, byte r.kind.code, byte r.filter] ++ le 4 r.demandSet.toNat ++ le 4 r.extendSet.toNat
      ++ [byte r.maxPresence, byte r.maxAbsence, byte r.classMode.code] ++ le 2 r.threshold
  | .conflict i j r => [byte 6, byte i, byte j] ++ le 2 r.ij ++ le 2 r.ji
  | .severity k row sev => [byte 7, byte k.code, byte row.code, byte sev.code]

/-- The body length laid down for a record kind code (section 11.7). -/
def recordLength? : Nat → Option Nat
  | 1 => some 17
  | 2 => some 11
  | 3 => some 13
  | 4 => some 5
  | 5 => some 17
  | 6 => some 7
  | 7 => some 4
  | _ => none

/-! ### The checks of R3 -/

/-- Why a DEF_RECORD or a PLAN_RECORD is refused: its length, or the field at an offset. -/
inductive BodyFault where
  | length
  | field (offset : Nat)
  deriving DecidableEq, Repr

/-- lo ≤ v ≤ hi. -/
def within (lo hi v : Nat) : Bool := decide (lo ≤ v) && decide (v ≤ hi)

/-- A field with a default: the marker, or in its range (R3). -/
def withinOr (marker lo hi v : Nat) : Bool := v == marker || within lo hi v

/-- The offset of the first check that fails. -/
def firstFailing : List (Nat × Bool) → Option Nat
  | [] => none
  | (off, ok) :: r => if ok then firstFailing r else some off

/-- A record if every check passes, in the order given. -/
def checked (checks : List (Nat × Bool)) (r : Option DefRecord) : Except BodyFault DefRecord :=
  match firstFailing checks with
  | some off => .error (.field off)
  | none => match r with
    | some r => .ok r
    | none => .error (.field 0)

/-- The junction record's fields (R4). -/
def parseJunction (b : List Byte) : Except BodyFault DefRecord :=
  let f := field b
  checked
    [(1, f 1 1 == 0), (2, within 100 250 (f 2 2)), (4, (yesNo? (f 4 1)).isSome), (5, withinOr 0xFFFF 50 600 (f 5 2)),
     (7, withinOr 0xFF 30 100 (f 7 1)), (8, withinOr 0xFF 30 100 (f 8 1)), (9, withinOr 0xFF 3 50 (f 9 1)),
     (10, withinOr 0xFF 2 50 (f 10 1)), (11, withinOr 0xFF 1 60 (f 11 1)), (12, withinOr 0xFFFF 5 600 (f 12 2)),
     (14, f 14 2 == 0 || within 100 6000 (f 14 2)), (16, within 1 8 (f 16 1))]
    ((yesNo? (f 4 1)).map fun a => .junction
      { vn := f 2 2, autoStart := a, startFlash := f 5 2, startRed := f 7 1, clearRed := f 8 1, confirm := f 9 1,
        intermittent := f 10 1, cableRaise := f 11 1, cableClear := f 12 2, linkSilence := f 14 2, fallback := f 16 1 })

/-- A group record's fields; a field that does not apply to the kind holds 0 (R3, R5). -/
def parseGroup (b : List Byte) : Except BodyFault DefRecord :=
  let f := field b
  let kind := groupKindOfCode? (f 2 1)
  checked
    [(1, within 1 32 (f 1 1)), (2, kind.isSome), (3, within 40 300 (f 3 2)),
     (5, if kind = some .vehicle then within 30 50 (f 5 1) else f 5 1 == 0),
     (6, if kind = some .vehicle then within 0 20 (f 6 1) else f 6 1 == 0),
     (7, if kind = some .pedestrian then within 40 300 (f 7 2) else f 7 2 == 0),
     (9, within 0 100 (f 9 1)), (10, (yesNo? (f 10 1)).isSome)]
    (kind.bind fun k => (yesNo? (f 10 1)).map fun rc => .group (f 1 1)
      { kind := k, minGreen := f 3 2, amber := f 5 1, redAmber := f 6 1, clearance := f 7 2, unitExt := f 9 1,
        recalls := rc })

/-- A circuit record's fields, and the cross-field check of loop_test (R3, R6). -/
def parseCircuit (b : List Byte) : Except BodyFault DefRecord :=
  let f := field b
  checked
    [(1, within 1 96 (f 1 1)), (2, within 1 32 (f 2 1)), (3, (roleOfCode? (f 3 1)).isSome), (4, within 1 104 (f 4 1)),
     (5, within 1 16 (f 5 1)), (6, (lampTypeOfCode? (f 6 1)).isSome), (7, within 1 4 (f 7 1)),
     (8, within 20 1000 (f 8 2)), (10, withinOr 0xFF 5 200 (f 10 1)), (11, (yesNo? (f 11 1)).isSome),
     (12, (yesNo? (f 12 1)).isSome),
     (11, !(yesNo? (f 11 1) == some true && lampTypeOfCode? (f 6 1) == some .led))]
    ((roleOfCode? (f 3 1)).bind fun role => (lampTypeOfCode? (f 6 1)).bind fun lt => (yesNo? (f 11 1)).bind fun lo =>
      (yesNo? (f 12 1)).map fun cr => .circuit (f 1 1)
        { group := f 2 1, role := role, channel := f 4 1, cable := f 5 1, lampType := lt, lamps := f 7 1,
          rated := f 8 2, offLimit := f 10 1, loopTest := lo, crossTest := cr })

/-- A cable record's fields; the resolved fault level exceeds the resolved warn level (R3, R7). -/
def parseCable (b : List Byte) : Except BodyFault DefRecord :=
  let f := field b
  let r : CableRec := { warn := f 2 1, fault := f 3 2 }
  checked
    [(1, within 1 16 (f 1 1)), (2, withinOr 0xFF 3 100 (f 2 1)), (3, withinOr 0xFFFF 5 300 (f 3 2)),
     (3, decide (r.warnLevel < r.faultLevel))]
    (some (.cable (f 1 1) r))

/-- A detector record's fields (R8). -/
def parseDetector (b : List Byte) : Except BodyFault DefRecord :=
  let f := field b
  checked
    [(1, within 1 24 (f 1 1)), (2, (detKindOfCode? (f 2 1)).isSome), (3, withinOr 0xFF 10 100 (f 3 1)),
     (12, withinOr 0xFF 0 60 (f 12 1)), (13, within 0 24 (f 13 1)), (14, (classModeOfCode? (f 14 1)).isSome),
     (15, within 1 600 (f 15 2))]
    ((detKindOfCode? (f 2 1)).bind fun k => (classModeOfCode? (f 14 1)).map fun m => .detector (f 1 1)
      { kind := k, filter := f 3 1, demandSet := BitVec.ofNat 32 (f 4 4), extendSet := BitVec.ofNat 32 (f 8 4),
        maxPresence := f 12 1, maxAbsence := f 13 1, classMode := m, threshold := f 15 2 })

/-- A conflict record's fields; the first group is below the second, or the first group field fails (R9). -/
def parseConflict (b : List Byte) : Except BodyFault DefRecord :=
  let f := field b
  checked
    [(1, within 1 32 (f 1 1) && decide (f 1 1 < f 2 1)), (2, within 1 32 (f 2 1)), (3, within 10 600 (f 3 2)),
     (5, within 10 600 (f 5 2))]
    (some (.conflict (f 1 1) (f 2 1) { ij := f 3 2, ji := f 5 2 }))

/-- A severity record's fields; a selector not listed for its kind fails on the selector field (R10). -/
def parseSeverity (b : List Byte) : Except BodyFault DefRecord :=
  let f := field b
  let kind := kindOfCode? (f 1 1)
  let row := rowOfCode? (f 2 1)
  let listed := match kind, row with
    | some k, some r => (rowBounds? k r).isSome
    | _, _ => false
  checked
    [(1, kind.isSome), (2, listed), (3, (severityOfCode? (f 3 1)).isSome)]
    (kind.bind fun k => row.bind fun r => (severityOfCode? (f 3 1)).map fun s => .severity k r s)

/-- The fields of a body whose kind code is one of the seven. -/
def parseFields (code : Nat) (b : List Byte) : Except BodyFault DefRecord :=
  match code with
  | 1 => parseJunction b
  | 2 => parseGroup b
  | 3 => parseCircuit b
  | 4 => parseCable b
  | 5 => parseDetector b
  | 6 => parseConflict b
  | 7 => parseSeverity b
  | _ => .error (.field 0)

/-- R3: the length laid down for the kind, the kind code, then the fields in layout order and the cross-field checks. -/
def parseRecord (b : List Byte) : Except BodyFault DefRecord :=
  match b with
  | [] => .error .length
  | k :: _ =>
    match recordLength? k.toNat with
    | none => .error (.field 0)
    | some n => if b.length = n then parseFields k.toNat b else .error .length

/-- A record put into a set, replacing one of the same kind and key (R2). -/
def DefSet.insert (d : DefSet) : DefRecord → DefSet
  | .junction r => { d with junction := some r }
  | .group n r => { d with groups := tput d.groups n r }
  | .circuit n r => { d with circuits := tput d.circuits n r }
  | .cable n r => { d with cables := tput d.cables n r }
  | .detector n r => { d with detectors := tput d.detectors n r }
  | .conflict i j r => { d with conflicts := tput d.conflicts (pairKey i j) r }
  | .severity k row sev => { d with severities := tput d.severities (severityKey k row) sev }

/-! ### Serialisation and identity (R11) -/

/-- The severity record of a table key. -/
def severityRecord? (key : Nat) (sev : Severity) : Option DefRecord :=
  (kindOfCode? (key / 256)).bind fun k => (rowOfCode? (key % 256)).map fun r => .severity k r sev

/-- The records of a set in canonical order: by kind, then by key (R11). -/
def DefSet.records (d : DefSet) : List DefRecord :=
  (match d.junction with | some j => [.junction j] | none => [])
    ++ d.groups.map (fun e => .group e.1 e.2)
    ++ d.circuits.map (fun e => .circuit e.1 e.2)
    ++ d.cables.map (fun e => .cable e.1 e.2)
    ++ d.detectors.map (fun e => .detector e.1 e.2)
    ++ d.conflicts.map (fun e => .conflict (e.1 / 256) (e.1 % 256) e.2)
    ++ d.severities.filterMap (fun e => severityRecord? e.1 e.2)

/-- The canonical serialisation: the bodies in canonical order, with no bytes between them (R11). -/
def DefSet.serial (d : DefSet) : List Byte := d.records.flatMap DefRecord.body

/-- The definition identity: the CRC-32 of the canonical serialisation (R11). -/
def DefSet.computeIdentity (d : DefSet) : BitVec 32 := crc32 d.serial

/-! ### Validation (R13, R14) -/

/-- A refusal with REFUSED_INVALID: check number, key kind, and the two key bytes low and high (section 11.7). -/
structure Invalid where
  check : Nat
  kind : Nat
  low : Nat
  high : Nat
  deriving DecidableEq, Repr

/-- Check 1: a junction record. -/
def check1 (d : DefSet) : Option Invalid := if d.junction.isSome then none else some ⟨1, 1, 0, 0⟩

/-- How many circuits of a role name a group. -/
def roleCount (d : DefSet) (g : Nat) (role : Role) : Nat := ((d.circuitsOf g).filter fun e => e.2.role == role).length

/-- The roles a group's kind requires, one circuit each (R13). -/
def GroupKind.roles : GroupKind → List Role
  | .vehicle => [.red, .amber, .green]
  | .arrow => [.green]
  | .pedestrian => [.red, .green]

/-- Check 2: a group is defined; each group has one circuit of each role its kind requires; each circuit names a defined
group with a role its kind allows (log 11 says which key is reported). -/
def check2 (d : DefSet) : Option Invalid :=
  if d.groups.isEmpty then some ⟨2, 1, 0, 0⟩
  else
    match d.groups.find? fun e => !(e.2.kind.roles.all fun role => roleCount d e.1 role == 1) with
    | some e => some ⟨2, 2, e.1, 0⟩
    | none =>
      match d.circuits.find? fun e =>
        match tget? d.groups e.2.group with
        | none => true
        | some g => !(g.kind.roles.contains e.2.role) with
      | some e => some ⟨2, 3, e.1, 0⟩
      | none => none

/-- Check 3: no channel is named by two circuits. -/
def check3 (d : DefSet) : Option Invalid :=
  (d.circuits.find? fun e => d.circuits.any fun e' => e'.1 < e.1 && e'.2.channel == e.2.channel).map
    fun e => ⟨3, 3, e.1, 0⟩

/-- Check 4: a cable named by a circuit is defined and named by at most 24. -/
def check4 (d : DefSet) : Option Invalid :=
  (((List.range Config.cables).map (· + 1)).find? fun c =>
    let n := (d.circuits.filter fun e => e.2.cable == c).length
    decide (0 < n) && (!thas d.cables c || decide (24 < n))).map fun c => ⟨4, 4, c, 0⟩

/-- The least intergreen check 5 allows from group i to group j: max(ending_i + RA_j, 10). -/
def leastIntergreen (gi gj : GroupRec) : Nat := max (gi.ending + gj.ra) 10

/-- Check 5: each conflict record names two defined groups and both intergreens cover ending and red-amber. -/
def check5 (d : DefSet) : Option Invalid :=
  (d.conflicts.find? fun e =>
    match tget? d.groups (e.1 / 256), tget? d.groups (e.1 % 256) with
    | some gi, some gj => decide (e.2.ij < leastIntergreen gi gj) || decide (e.2.ji < leastIntergreen gj gi)
    | _, _ => true).map fun e => ⟨5, 6, e.1 / 256, e.1 % 256⟩

/-- Whether every number a set names is a key of a table. -/
def allDefined {α : Type} {w : Nat} (t : Table α) (set : BitVec w) : Bool := (setList set).all fun n => thas t n

/-- Check 6: every group of every detector's sets is defined. -/
def check6 (d : DefSet) : Option Invalid :=
  (d.detectors.find? fun e => !(allDefined d.groups e.2.demandSet && allDefined d.groups e.2.extendSet)).map
    fun e => ⟨6, 5, e.1, 0⟩

/-- Checks 1 to 6 in order: the first that fails (R13). -/
def validate (d : DefSet) : Option Invalid :=
  ((((check1 d).or (check2 d)).or (check3 d)).or (check4 d)).or ((check5 d).or (check6 d))

/-- Check 7: whether any configured severity is raised, lowered or replaced by its bounds (R14). -/
def clampsSeverity (d : DefSet) : Bool :=
  d.severities.any fun e =>
    match severityRecord? e.1 e.2 with
    | some (.severity k row cfg) =>
      match rowBounds? k row with
      | some b => decide (boundSeverity k b cfg ≠ cfg)
      | none => false
    | _ => false

end Sys2Proof.Machine
end

