-- ==== Sys2Proof/Machine/Plans.lean ====
section
/-! DEFINITION. Plan record bodies (section 11.7), the checks of PLAN_RECORD (R44), the plan identity (R45) and plan
validation (R46). -/

namespace Sys2Proof.Machine

/-- Plan mode codes (section 11.7). -/
def PlanMode.code : PlanMode → Nat
  | .fixed => 0
  | .actuated => 1

/-- The plan mode of a code. -/
def planModeOfCode? : Nat → Option PlanMode
  | 0 => some .fixed
  | 1 => some .actuated
  | _ => none

/-- The 9 bytes of a stage. -/
def Stage.bytes (st : Stage) : List Byte :=
  le 4 st.green.toNat ++ [bit st.always] ++ le 2 st.maxGreen ++ le 2 st.change

/-- The body of a plan record. -/
def Plan.body (p : Plan) : List Byte :=
  byte p.mode.code :: byte p.stages.length :: (le 2 p.cycle ++ p.stages.flatMap Stage.bytes)

/-- The plan identity: the CRC-32 over the body (R45). -/
def Plan.computeIdentity (p : Plan) : BitVec 32 := crc32 p.body

/-- The checks of stage k of a body, in layout order (R44); `prev` is the change point of stage k − 1. -/
def stageChecks (mode : PlanMode) (cycle prev k : Nat) (b : List Byte) : List (Nat × Bool) :=
  let o := 4 + 9 * (k - 1)
  let green := field b o 4
  let always := field b (o + 4) 1
  let maxGreen := field b (o + 5) 2
  let change := field b (o + 7) 2
  match mode with
  | .fixed =>
    [(o, green != 0), (o + 4, always == 0), (o + 5, maxGreen == 0),
     (o + 7, if k = 1 then change == 0 else decide (prev < change) && decide (change < cycle))]
  | .actuated =>
    [(o, green != 0), (o + 4, (yesNo? always).isSome), (o + 5, within 100 65535 maxGreen), (o + 7, change == 0)]

/-- Stage k of a body. -/
def stageOf (k : Nat) (b : List Byte) : Stage :=
  let o := 4 + 9 * (k - 1)
  { green := BitVec.ofNat 32 (field b o 4), always := field b (o + 4) 1 == 1, maxGreen := field b (o + 5) 2,
    change := field b (o + 7) 2 }

/-- The checks of every stage, ascending (R44). -/
def allStageChecks (mode : PlanMode) (cycle count : Nat) (b : List Byte) : List (Nat × Bool) :=
  ((List.range count).map (· + 1)).flatMap fun k => stageChecks mode cycle (stageOf (k - 1) b).change k b

/-- R44: the length and stage count, then mode, cycle length and stages. -/
def parsePlan (b : List Byte) : Except BodyFault Plan :=
  match b with
  | m :: n :: _ =>
    let count := n.toNat
    if !(within 2 12 count && b.length == 4 + 9 * count) then .error .length
    else
      match planModeOfCode? m.toNat with
      | none => .error (.field 0)
      | some mode =>
        let cycle := field b 2 2
        if !(if mode = .fixed then within 300 2400 cycle else cycle == 0) then .error (.field 2)
        else
          match firstFailing (allStageChecks mode cycle count b) with
          | some off => .error (.field off)
          | none => .ok { mode := mode, cycle := cycle, stages := (List.range count).map fun i => stageOf (i + 1) b }
  | _ => .error .length

/-- The groups of `a` that are not in `b`. -/
def leaving (a b : GroupSet) : List Nat := (setList a).filter fun g => !inSet b g

/-- The largest I(i→j) from the groups that leave a stage to the groups that join the next, 0 where none conflict (R46). -/
def changeIntergreen (d : DefSet) (before after : GroupSet) : Nat :=
  (leaving before after).foldl (fun m i =>
    (leaving after before).foldl (fun m j => match d.intergreen? i j with | some v => max m v | none => m) m) 0

/-- The stage before stage k in the ring; the last stage comes before stage 1 (R46). -/
def Plan.before? (p : Plan) (k : Nat) : Option Stage := if k = 1 then p.stages.getLast? else p.stage? (k - 1)

/-- Check 1 of stage k: its groups are defined (R46). -/
def planCheck1 (d : DefSet) (st : Stage) : Bool := allDefined d.groups st.green

/-- Check 2 of stage k: no two of its groups conflict (R46). -/
def planCheck2 (d : DefSet) (st : Stage) : Bool :=
  (setList st.green).all fun i => (setList st.green).all fun j => !d.conflicting i j

/-- Check 3 of stage k of a FIXED plan: its span covers its stage min and the intergreen of the change into it (R46). -/
def planCheck3 (d : DefSet) (p : Plan) (k : Nat) (st : Stage) : Bool :=
  match p.before? k with
  | none => true
  | some prev => decide (d.stageMin st + changeIntergreen d prev.green st.green ≤ p.span k)

/-- The first stage, ascending, that fails a check. -/
def failingStage (p : Plan) (check : Nat → Stage → Bool) : Option Nat :=
  (((List.range p.stages.length).map (· + 1)).find? fun k =>
    match p.stage? k with
    | some st => !check k st
    | none => false)

/-- Plan validation: the check and stage that fail, if any (R46). -/
def validatePlan (d : DefSet) (p : Plan) : Option (Nat × Nat) :=
  match failingStage p fun _ st => planCheck1 d st with
  | some k => some (1, k)
  | none =>
    match failingStage p fun _ st => planCheck2 d st with
    | some k => some (2, k)
    | none =>
      if p.mode = .fixed then (failingStage p fun k st => planCheck3 d p k st).map fun k => (3, k) else none

/-- Whether validation clamps a stage max; a FIXED plan never does (R46). -/
def clampsPlan (d : DefSet) (p : Plan) : Bool :=
  decide (p.mode = .actuated) && p.stages.any fun st => decide (d.boundedMax st ≠ st.maxGreen)

/-- A slot re-validated against a definition (R49). -/
def revalidate (d : DefSet) : Slot → Slot
  | .empty => .empty
  | .valid p id => if (validatePlan d p).isNone then .valid p id else .invalid p id
  | .invalid p id => if (validatePlan d p).isNone then .valid p id else .invalid p id

end Sys2Proof.Machine
end

