-- ==== Sys2Proof/Machine/State.lean ====
section
/-! DEFINITION. The state of the whole module, the ways a step can stop, and the state right after reset. -/

namespace Sys2Proof.Machine

/-- A machine fault: there is none. What the spec calls a fault is an entry of the fault table, and every command has an
effect on every state, so nobody raises one (safe: no run ends). -/
inductive Fault where
  deriving DecidableEq

/-- Why a command has no meaning. -/
inductive Refusal where
  /-- Raised by exec's arm of a command the model gives no meaning; no arm does (safe: the run ends, nothing is claimed). -/
  | notModelled (mnemonic : String)
  deriving DecidableEq, Repr

/-- Everything the 9632 holds, block by block (00_scope.md 2.0), the crystal timebase (`uptime` in ds, `subTick` its 5 ms
ticks since the last ds boundary), the store load in progress (R177), the counter of free values, and the queue of
commands. -/
structure State where
  li : Link
  dt : Definitions
  sc : Stages
  gs : Sequencer
  du : Detectors
  ob : Banks
  pu : Proving
  csu : CableUnit
  cm : Monitor
  fru : Response
  spc : Supply
  ru : Recording
  stc : Store
  uptime : Nat
  subTick : Nat
  loading : Bool
  free : Nat
  pending : List Instr
  deriving DecidableEq, Repr

/-- The LI at hard reset, with the straps read (R179, R180, R185). -/
def linkAtReset (rateFast : Bool) (address : BitVec 5) : Link where
  rxPhase := .hunt
  rxBytes := []
  reply := none
  softReset := .none
  held := none
  addrStrap := address
  rateStrap := rateFast
  silence := .off
  remaining := 0

/-- The DT at hard reset, before the load (R1, R2). -/
def definitionsAtReset : Definitions where
  live := DefSet.empty
  valid := false
  identity := 0
  staging := DefSet.empty

/-- The SC at hard reset, before the load (R50). -/
def stagesAtReset : Stages where
  slots := [(1, .empty), (2, .empty), (3, .empty), (4, .empty), (5, .empty), (6, .empty), (7, .empty), (8, .empty)]
  staging := none
  current := none
  pending := none
  stage := none
  established := false
  elapsed := 0
  clock := 0
  delta := 0
  allowance := 0
  hold := 0
  forced := none
  demand := []
  ext := []
  owed := false
  arrivals := []

/-- A channel at hard reset (R152, R156). -/
def channelAtReset : Channel := ⟨false, false, 0, 0, false⟩

/-- The CSU at hard reset (R104, R107, R108, R111, R113, R114). -/
def cableUnitAtReset : CableUnit where
  dark := []
  loops := []
  measuring := none
  dwelt := 0
  residual := 0
  leakCursor := 1
  leakList := []
  leaks := []
  lfsr := 0xACE1#16
  test := none
  crossCursor := 1
  crossList := []
  pairs := []

/-- The SPC at hard reset (R146 to R149); V and the condition before the first close are log 6's. -/
def supplyAtReset : Supply where
  contactor := .opened
  drive := false
  provingTimer := 0
  provingRun := 0
  lostSeen := false
  liveRun := 0
  deadRun := 0
  bandRun := 0
  normalRun := 0
  bandRaised := false
  lostRun := 0
  returnRun := 0
  lossStanding := false
  volts := 0
  condition := .lost
  frequency := none
  freqCount := 0
  freqTime := 0

/-- A group's service record with every count 0, disabled and BASIC (R157, R158); no end tag, which no rule gives a value at
hard reset (log 6, DESIGN CHOICE). -/
def GroupService.blank : GroupService where
  greens := 0
  greenDs := 0
  served := 0
  waitDs := 0
  lastWait := 0
  maxWait := 0
  gapOuts := 0
  maxOuts := 0
  forced := 0
  cfgEnable := false
  cfgExtended := false
  enable := false
  extended := false
  wait := none
  capture := none
  tag := .none

/-- A detector's service record with every field 0 or none, disabled (R164). -/
def DetService.blank : DetService where
  kind := none
  lastActivations := 0
  lastOccupied := 0
  lastOccupancy := 0
  lastEnd := none
  activations := 0
  occupied := 0
  classCount := 0
  cfgEnable := false
  enable := false
  armed := false

/-- The RU at hard reset, before the load (R157, R158, R164, R167, R169, R170). -/
def recordingAtReset : Recording where
  groups := (List.range Config.groups).map fun n => (n + 1, GroupService.blank)
  dets := (List.range Config.detectors).map fun n => (n + 1, DetService.blank)
  active := true
  queue := []
  overflow := false
  attn := false
  lastBatch := []
  lastOverflow := false

/-- An area never written: blank, DAMAGED (R177). -/
def Area.blank : Area := ⟨.damaged, false, .none, none, 0, []⟩

/-- A store never written, with nothing pending and nothing in flight (R171). -/
def storeBlank : Store where
  areas := (List.range 10).map fun n => (n + 1, Area.blank)
  flight := none
  storedIdentity := none

/-- The module as a hard reset leaves it before the store load (R176), with these straps and this store. -/
def State.atReset (rateFast : Bool) (address : BitVec 5) (store : Store) (free : Nat) (pending : List Instr) : State where
  li := linkAtReset rateFast address
  dt := definitionsAtReset
  sc := stagesAtReset
  gs := ⟨[], none, false, 0, true⟩
  du := ⟨[], 0⟩
  ob := ⟨(List.range Config.channels).map fun n => (n + 1, channelAtReset), 0, false⟩
  pu := ⟨[], []⟩
  csu := cableUnitAtReset
  cm := ⟨[], []⟩
  fru := ⟨[], [], .dark, false, false, 0, none⟩
  spc := supplyAtReset
  ru := recordingAtReset
  stc := store
  uptime := 0
  subTick := 0
  loading := true
  free := free
  pending := pending

/-- The machine right after reset: a module whose store was never written, strapped to address 1 and 38 400 baud (log 6),
before its store load ends (log 7). -/
def State.reset : State := State.atReset false 1 storeBlank 0 []

end Sys2Proof.Machine
end

