-- ==== Sys2Proof/Machine/Ops.lean ====
section
/-! DEFINITION. Changing one block of the state, the folds over sources, and the questions every block asks of the others. -/

namespace Sys2Proof.Machine

/-! ### One block changed, every other left as it stands -/

/-- The state with the LI block changed. -/
def State.onLi (s : State) (f : Link → Link) : State := { s with li := f s.li }

/-- The state with the DT block changed. -/
def State.onDt (s : State) (f : Definitions → Definitions) : State := { s with dt := f s.dt }

/-- The state with the SC block changed. -/
def State.onSc (s : State) (f : Stages → Stages) : State := { s with sc := f s.sc }

/-- The state with the GS block changed. -/
def State.onGs (s : State) (f : Sequencer → Sequencer) : State := { s with gs := f s.gs }

/-- The state with the DU block changed. -/
def State.onDu (s : State) (f : Detectors → Detectors) : State := { s with du := f s.du }

/-- The state with the OB block changed. -/
def State.onOb (s : State) (f : Banks → Banks) : State := { s with ob := f s.ob }

/-- The state with the PU block changed. -/
def State.onPu (s : State) (f : Proving → Proving) : State := { s with pu := f s.pu }

/-- The state with the CSU block changed. -/
def State.onCsu (s : State) (f : CableUnit → CableUnit) : State := { s with csu := f s.csu }

/-- The state with the CM block changed. -/
def State.onCm (s : State) (f : Monitor → Monitor) : State := { s with cm := f s.cm }

/-- The state with the FRU block changed. -/
def State.onFru (s : State) (f : Response → Response) : State := { s with fru := f s.fru }

/-- The state with the SPC block changed. -/
def State.onSpc (s : State) (f : Supply → Supply) : State := { s with spc := f s.spc }

/-- The state with the RU block changed. -/
def State.onRu (s : State) (f : Recording → Recording) : State := { s with ru := f s.ru }

/-- The state with the STC block changed. -/
def State.onStc (s : State) (f : Store → Store) : State := { s with stc := f s.stc }

/-- A change made for each number of a list in turn. -/
def forEach (l : List Nat) (f : Nat → State → State) (s : State) : State := l.foldl (fun s n => f n s) s

/-- A change made only where a condition holds. -/
def State.when (s : State) (c : Bool) (f : State → State) : State := if c then f s else s

/-! ### Questions of the live definition -/

/-- The live definition. -/
def State.def_ (s : State) : DefSet := s.dt.live

/-- The live group record of a group. -/
def State.groupRec? (s : State) (g : Nat) : Option GroupRec := tget? s.dt.live.groups g

/-- The live circuit record of a circuit. -/
def State.circuitRec? (s : State) (c : Nat) : Option CircuitRec := tget? s.dt.live.circuits c

/-- The live detector record of a detector. -/
def State.detectorRec? (s : State) (d : Nat) : Option DetectorRec := tget? s.dt.live.detectors d

/-- The live cable record of a cable. -/
def State.cableRec? (s : State) (c : Nat) : Option CableRec := tget? s.dt.live.cables c

/-! ### Questions of the groups, the fault table and the contactor -/

/-- The aspect a group's machine is in, none for a group with no record. -/
def State.aspect? (s : State) (g : Nat) : Option Aspect := (tget? s.gs.groups g).map (·.aspect)

/-- Whether a group is in GREEN. -/
def State.isGreen (s : State) (g : Nat) : Bool := s.aspect? g == some .green

/-- Whether a group is in the lockout set (R136). -/
def State.isLocked (s : State) (g : Nat) : Bool := s.fru.lockout.contains g

/-- A fault table entry. -/
def State.entry? (s : State) (src : Source) (kind : FaultKind) : Option FaultEntry := tget? s.fru.table (faultKey src kind)

/-- Whether an entry is live. -/
def State.isLive (s : State) (src : Source) (kind : FaultKind) : Bool :=
  match s.entry? src kind with
  | some e => e.live
  | none => false

/-- Whether an entry is latched. -/
def State.isLatched (s : State) (src : Source) (kind : FaultKind) : Bool :=
  match s.entry? src kind with
  | some e => e.latched
  | none => false

/-- Whether a fault of effective severity at or above one is live (R139, R142). -/
def State.liveAtLeast (s : State) (sev : Severity) : Bool := s.fru.table.any fun e => e.2.live && e.2.sev.ge sev

/-- Whether a detector is substituted: a stuck entry of it is live (R74). -/
def State.substituted (s : State) (d : Nat) : Bool := s.isLive (.detector d) .detStuckOn || s.isLive (.detector d) .detStuckOff

/-- Whether the Stage Controller reports a VALID plan current or pending (R51); both are VALID whenever they are not none
(R50). -/
def State.planReady (s : State) : Bool := s.sc.current.isSome || s.sc.pending.isSome

/-- Whether a write of an image is in flight (R171). -/
def State.writing (s : State) (image : Nat) : Bool :=
  match s.stc.flight with
  | some f => f.image == image
  | none => false

/-- The current plan. -/
def State.plan? (s : State) : Option Plan :=
  (s.sc.current.bind fun k => tget? s.sc.slots k).bind Slot.validPlan?

/-- The plan running in RUN, if it is of a mode (R52, R56). -/
def State.running? (s : State) (mode : PlanMode) : Option Plan :=
  if s.fru.mode = .run then s.plan?.filter fun p => decide (p.mode = mode) else none

/-- The stage of the current plan that is the current stage. -/
def State.stageNow? (s : State) (p : Plan) : Option Stage := s.sc.stage.bind p.stage?

/-- The output regimes (R22). -/
inductive Regime where
  | aspect
  | flashPattern
  | allOff
  deriving DecidableEq, Repr

/-- The regime of a junction mode (R22). -/
def Mode.regime : Mode → Regime
  | .startRed | .run | .clearing => .aspect
  | .startFlash | .flash => .flashPattern
  | .dark | .supplyWait => .allOff

/-- q: the closes counted as one ds, 10 before a frequency is detected (R146, 7.1). -/
def State.closesPerDs (s : State) : Nat := if s.spc.frequency = some 60 then 12 else 10

/-- The closes of a span of n × 100 ms (R146): 300 ms is 30 or 36, 1 s 100 or 120, 2 s 200 or 240. -/
def State.closesOf (s : State) (tenths : Nat) : Nat := tenths * s.closesPerDs

end Sys2Proof.Machine
end

