-- ==== Sys2Proof/Machine/Recorder.lean ====
section
/-! DEFINITION. What the Recording Unit does with what the other blocks hand it: notices (R167, R168, R170), waits (R159),
captures and counts (R160, R161), end tags (R162). -/

namespace Sys2Proof.Machine

/-! ### The notice queue -/

/-- The level of ATTN for a queue and an overflow mark (R170). -/
def attnOf (queue : List Notice) (overflow : Bool) : Bool := !queue.isEmpty || overflow

/-- A new queue and overflow mark, with ATTN following them (R170). -/
def Recording.setQueue (r : Recording) (queue : List Notice) (overflow : Bool) : Recording :=
  { r with queue := queue, overflow := overflow, attn := attnOf queue overflow }

/-- Whether a notice is of the fault entry with a key. -/
def Notice.isKey (key : Nat) : Notice → Bool
  | .fault k _ _ _ _ => k == key
  | .mode _ _ => false

/-- Whether a notice is the MODE notice. -/
def Notice.isMode : Notice → Bool
  | .fault _ _ _ _ _ => false
  | .mode _ _ => true

/-- A queued notice of a key takes a new entry's first-raised time and partner, and keeps its place and marks (R167). -/
def Notice.renew (key first partner : Nat) : Notice → Notice
  | .fault k f p c r => if k = key then .fault k first partner c r else .fault k f p c r
  | .mode t m => .mode t m

/-- The queued MODE notice takes the new mode, and keeps its place and time (R167). -/
def Notice.remode (m : Mode) : Notice → Notice
  | .fault k f p c r => .fault k f p c r
  | .mode t _ => .mode t m

/-- The cleared-since mark of a key's notice (R168). -/
def Notice.markCleared (key : Nat) : Notice → Notice
  | .fault k f p c r => if k = key then .fault k f p true r else .fault k f p c r
  | .mode t m => .mode t m

/-- The repeated-since mark of a key's notice (R168). -/
def Notice.markRepeated (key : Nat) : Notice → Notice
  | .fault k f p c r => if k = key then .fault k f p c true else .fault k f p c r
  | .mode t m => .mode t m

/-- A notice added at the back, or the overflow mark set where the queue is full (R167). -/
def Recording.addNotice (r : Recording) (n : Notice) : Recording :=
  if r.queue.length < Config.queueMax then r.setQueue (r.queue ++ [n]) r.overflow else r.setQueue r.queue true

/-- The creation of a fault entry is handed to the RU (R167). -/
def Recording.noticeCreated (r : Recording) (key first partner : Nat) : Recording :=
  if r.queue.any (Notice.isKey key) then r.setQueue (r.queue.map (Notice.renew key first partner)) r.overflow
  else r.addNotice (.fault key first partner false false)

/-- A change of junction mode is handed to the RU (R167). -/
def Recording.noticeMode (r : Recording) (now : Nat) (m : Mode) : Recording :=
  if r.queue.any Notice.isMode then r.setQueue (r.queue.map (Notice.remode m)) r.overflow
  else r.addNotice (.mode now m)

/-- An entry's clear is handed to the RU (R168). -/
def Recording.noticeCleared (r : Recording) (key : Nat) : Recording :=
  r.setQueue (r.queue.map (Notice.markCleared key)) r.overflow

/-- A repeated event is handed to the RU (R168). -/
def Recording.noticeRepeated (r : Recording) (key : Nat) : Recording :=
  r.setQueue (r.queue.map (Notice.markRepeated key)) r.overflow

/-- A deletion at a definition commit is handed to the RU: the notice is removed (R168). -/
def Recording.noticeRemoved (r : Recording) (key : Nat) : Recording :=
  r.setQueue (r.queue.filter fun n => !n.isKey key) r.overflow

/-! ### Waits, captures and counts -/

/-- A group's service record changed. -/
def Recording.updGroup (r : Recording) (g : Nat) (f : GroupService → GroupService) : Recording :=
  { r with groups := tupd r.groups g f }

/-- A demand latch: the wait latch takes the instant if it is none (R159). -/
def GroupService.latchWait (now : Nat) (v : GroupService) : GroupService :=
  { v with wait := match v.wait with | none => some now | some t => some t }

/-- A withdrawn wait (R159). -/
def GroupService.withdrawWait (v : GroupService) : GroupService := { v with wait := none }

/-- A green start: the values in force follow the configured ones, the wait ends, and a capture opens if the enable in
force is yes and the switch is set (R158, R159, R160). -/
def GroupService.greenStart (active : Bool) (now : Nat) (v : GroupService) : GroupService :=
  { v with
    enable := v.cfgEnable
    extended := v.cfgExtended
    wait := none
    capture := if v.cfgEnable && active then some ⟨now, v.wait.map (now - ·), v.cfgExtended⟩ else none
    tag := .none }

/-- The causes of a green end (R30). -/
inductive EndCause where
  | normal
  | lockout
  | clearing
  | flashNow
  | supplyLoss
  | dark
  deriving DecidableEq, Repr

/-- The counts a captured green adds (R161). -/
def GroupService.count (cause : EndCause) (now : Nat) (c : Capture) (v : GroupService) : GroupService :=
  let v := { v with greens := v.greens + 1, greenDs := v.greenDs + BitVec.ofNat 32 (now - c.start) }
  let v := match c.wait with
    | none => v
    | some w => { v with
        served := v.served + 1
        waitDs := v.waitDs + BitVec.ofNat 32 w
        lastWait := min w 65535
        maxWait := max v.maxWait (min w 65535) }
  if !c.extended then v
  else if cause = .normal then
    match v.tag with
    | .gapOut => { v with gapOuts := v.gapOuts + 1 }
    | .maxOut => { v with maxOuts := v.maxOuts + 1 }
    | .none => v
  else { v with forced := v.forced + 1 }

/-- A green end: an open capture is counted and closed, and the end tag becomes none (R161). -/
def GroupService.greenEnd (cause : EndCause) (now : Nat) (v : GroupService) : GroupService :=
  let v := match v.capture with
    | none => v
    | some c => v.count cause now c
  { v with capture := none, tag := .none }

/-- A green start of a group is handed to the RU (R30). -/
def State.ruGreenStart (s : State) (g : Nat) : State :=
  s.onRu fun r => r.updGroup g (GroupService.greenStart r.active s.uptime)

/-- A green end of a group is handed to the RU with its cause (R30). -/
def State.ruGreenEnd (s : State) (g : Nat) (cause : EndCause) : State :=
  s.onRu fun r => r.updGroup g (GroupService.greenEnd cause s.uptime)

/-- A group's demand latch is handed to the RU (R53). -/
def State.ruDemandLatch (s : State) (g : Nat) : State :=
  s.onRu fun r => r.updGroup g (GroupService.latchWait s.uptime)

/-- The withdrawal of a group's wait is handed to the RU (R53). -/
def State.ruWithdrawn (s : State) (g : Nat) : State := s.onRu fun r => r.updGroup g GroupService.withdrawWait

/-- An end tag is handed to the RU (R162). -/
def State.ruTag (s : State) (g : Nat) (tag : EndTag) : State :=
  s.onRu fun r => r.updGroup g fun v => { v with tag := tag }

end Sys2Proof.Machine
end

