-- ==== Sys2Proof/Machine/Demand.lean ====
section
/-! DEFINITION. Demand, recall and extension at the Stage Controller (R53, R54, R55), with what the Detector Unit asserts
there (R70, R74). -/

namespace Sys2Proof.Machine

/-- The origins of demand (R53). -/
inductive Origin where
  | detector
  | link
  | recalled
  deriving DecidableEq, Repr

/-- No origin. -/
def Origins.none : Origins := ⟨false, false, false⟩

/-- A set of origins with one added. -/
def Origins.add (o : Origins) : Origin → Origins
  | .detector => { o with detector := true }
  | .link => { o with link := true }
  | .recalled => { o with recalls := true }

/-- Whether no origin is left. -/
def Origins.isNone (o : Origins) : Bool := !(o.detector || o.link || o.recalls)

/-- Demand of one origin for a group: none for a group not defined or in GREEN; a group that joins the set hands its
demand latch to the RU (R53). -/
def State.addDemand (s : State) (o : Origin) (g : Nat) : State :=
  if (s.groupRec? g).isNone || s.isGreen g then s
  else
    match tget? s.sc.demand g with
    | some os => s.onSc fun c => { c with demand := tput c.demand g (os.add o) }
    | none => (s.onSc fun c => { c with demand := tput c.demand g (Origins.none.add o) }).ruDemandLatch g

/-- A group leaves the demand set with all its origins, at its green start (R53). -/
def State.dropDemand (s : State) (g : Nat) : State :=
  s.onSc fun c => { c with demand := tkeep c.demand fun k _ => k != g }

/-- The LINK origin is withdrawn from one group; a group left with no origin leaves the set and its wait is withdrawn
(R53, R64). -/
def State.withdrawLink (s : State) (g : Nat) : State :=
  match tget? s.sc.demand g with
  | none => s
  | some os =>
    let os' := { os with link := false }
    if os'.isNone then (s.dropDemand g).ruWithdrawn g
    else s.onSc fun c => { c with demand := tput c.demand g os' }

/-- A group that is in the demand set and not locked out (R53, R56). -/
def State.demanded (s : State) (g : Nat) : Bool := thas s.sc.demand g && !s.isLocked g

/-! ### Extending presence (R55, R70, R74) -/

/-- Whether a detector asserts extending presence for a group (R70). -/
def State.extends (s : State) (g d : Nat) (run : DetRun) : Bool :=
  match s.detectorRec? d with
  | none => false
  | some r => inSet r.extendSet g && (run.level || s.substituted d)

/-- Whether extending presence is asserted for a group: some detector that extends it is in presence or substituted. -/
def State.presenceFor (s : State) (g : Nat) : Bool := s.du.dets.any fun e => s.extends g e.1 e.2

/-- The unit extension of a group. -/
def State.unitExt (s : State) (g : Nat) : Nat := match s.groupRec? g with | some r => r.unitExt | none => 0

/-- Every group's extending presence as the detectors stand, the timer of a green group with presence held at its unit
extension (R55, R70). -/
def State.refreshPresence (s : State) : State :=
  s.onSc fun c => { c with
    ext := tmap c.ext fun g x =>
      { timer := if s.presenceFor g && s.isGreen g then s.unitExt g else x.timer, presence := s.presenceFor g } }

/-- The extension timer of a green group set to its unit extension, at an activation (R55, R68). -/
def State.setExtension (s : State) (g : Nat) : State :=
  s.when (s.isGreen g) fun s => s.onSc fun c => { c with ext := tupd c.ext g fun x => { x with timer := s.unitExt g } }

/-- What the SC does at a green start: the group leaves the demand set, and a presence already standing holds its timer
(R53, R55). -/
def State.scGreenStart (s : State) (g : Nat) : State :=
  (s.dropDemand g).onSc fun c => { c with
    ext := tupd c.ext g fun x => { x with timer := if x.presence then s.unitExt g else x.timer } }

/-- The substituted detectors' demand for a group, DETECTOR origin (R74). -/
def State.substitutedFor (s : State) (g : Nat) : Bool :=
  s.du.dets.any fun e =>
    match s.detectorRec? e.1 with
    | some r => inSet r.demandSet g && s.substituted e.1
    | none => false

/-- Whether a group's record has recall DEMAND (R54). -/
def State.recalled (s : State) (g : Nat) : Bool := match s.groupRec? g with | some r => r.recalls | none => false

/-- What the SC does at a green end: the extension timer becomes 0, and recall and substituted detectors add their demand
(R54, R55, R74). -/
def State.scGreenEnd (s : State) (g : Nat) : State :=
  let s := s.onSc fun c => { c with ext := tupd c.ext g fun x => { x with timer := 0 } }
  let s := s.when (s.recalled g) fun s => s.addDemand .recalled g
  s.when (s.substitutedFor g) fun s => s.addDemand .detector g

/-- Whether a green group has gapped out: no extending presence and timer 0 (R55). -/
def State.gappedOut (s : State) (g : Nat) : Bool :=
  s.isGreen g && match tget? s.sc.ext g with
    | some x => !x.presence && x.timer == 0
    | none => true

/-- The demand set emptied and the recalls reapplied (R53, R54). -/
def State.restartDemand (s : State) : State :=
  forEach (tkeys s.dt.live.groups) (fun g s => s.when (s.recalled g) fun s => s.addDemand .recalled g)
    (s.onSc fun c => { c with demand := [] })

/-- A detector's demand for every group of its demand set that is not in GREEN (R53, R74). -/
def State.detectorDemand (s : State) (d : Nat) : State :=
  match s.detectorRec? d with
  | none => s
  | some r => forEach (setList r.demandSet) (fun g s => s.addDemand .detector g) s

/-- What the SC does on every exit from RUN: the running plan's state is cleared and every extension timer is 0 (R50, R55,
R58, R59, R61). -/
def Stages.clearRun (c : Stages) : Stages :=
  { c with
    stage := none
    established := false
    elapsed := 0
    clock := 0
    delta := 0
    allowance := 0
    hold := 0
    forced := none
    ext := tmap c.ext fun _ x => { x with timer := 0 }
    owed := false
    arrivals := [] }

end Sys2Proof.Machine
end

