-- ==== Sys2Proof/Machine/Sequence.lean ====
section
/-! DEFINITION. The Group Sequencer's operations: green starts and ends (R23 to R30), the intergreen rule (R31, R32),
lockout (R34, R35), the entry effects of the junction modes (R36 to R40), and stage requests (R28, R51). -/

namespace Sys2Proof.Machine

/-- A group's GS record changed. -/
def Sequencer.upd (q : Sequencer) (g : Nat) (f : GroupRun → GroupRun) : Sequencer := { q with groups := tupd q.groups g f }

/-- The kind of a defined group; a group with no record counts as VEHICLE, and has no GS record to change. -/
def State.kindOf (s : State) (g : Nat) : GroupKind := match s.groupRec? g with | some r => r.kind | none => .vehicle

/-- A group enters an aspect: its state timer becomes 0. -/
def GroupRun.enter (a : Aspect) (r : GroupRun) : GroupRun := { r with aspect := a, timer := 0, halves := 0 }

/-- A group at rest stays as it is; any other is put at rest. -/
def GroupRun.toRest (rest : Aspect) (r : GroupRun) : GroupRun := if r.aspect = rest then r else r.enter rest

/-- A group enters GREEN: its green start is recorded and reported to the SC and the RU (R30). -/
def State.startGreen (s : State) (g : Nat) : State :=
  let s := s.onGs fun q => q.upd g fun r => { r.enter .green with greenStart := some s.uptime, minElapsed := false }
  (s.scGreenStart g).ruGreenStart g

/-- A group leaves GREEN for an aspect: its green end is stamped and reported to the RU with its cause, and the SC takes
it (R30, R54). -/
def State.endGreen (s : State) (cause : EndCause) (next : Aspect) (g : Nat) : State :=
  let s := s.onGs fun q => q.upd g fun r => { r.enter next with greenEnd := s.uptime }
  (s.ruGreenEnd g cause).scGreenEnd g

/-- The aspect a green ends in by stage change or CLEARING (R29, R36). -/
def GroupKind.afterGreen : GroupKind → Aspect
  | .vehicle => .amber
  | .arrow => .dark
  | .pedestrian => .clearance

/-- The aspect a green ends in by lockout (R34). -/
def GroupKind.afterLockout : GroupKind → Aspect
  | .vehicle => .amber
  | .arrow => .dark
  | .pedestrian => .red

/-- A green ended by stage change once its min green has elapsed (R29). -/
def State.endIfDue (s : State) (g : Nat) : State :=
  match tget? s.gs.groups g with
  | none => s
  | some r => s.when (decide (r.aspect = .green) && !r.inTarget && r.minElapsed) fun s =>
      s.endGreen .normal (s.kindOf g).afterGreen g

/-! ### The intergreen rule -/

/-- Whether a group is in GREEN or RED_AMBER. -/
def State.undecided (s : State) (g : Nat) : Bool :=
  s.aspect? g == some .green || s.aspect? g == some .redAmber

/-- Whether a group conflicting with j is in GREEN or RED_AMBER, so that T_j is not defined (R31). -/
def State.blocked (s : State) (j : Nat) : Bool := (s.dt.live.rivals j).any fun p => s.undecided p.1

/-- T_j: the largest commanded green end of a conflicting group plus its intergreen; none where no group conflicts (R31). -/
def State.earliest? (s : State) (j : Nat) : Option Nat :=
  (s.dt.live.rivals j).foldl (fun m p =>
    match tget? s.gs.groups p.1 with
    | none => m
    | some r => match m with
      | none => some (r.greenEnd + p.2)
      | some t => some (max t (r.greenEnd + p.2))) none

/-- Whether the present instant is at or after group j's entry instant, T_j less RA (R32). -/
def State.entryReached (s : State) (j ra : Nat) : Bool :=
  match s.earliest? j with
  | none => true
  | some t => decide (t ≤ s.uptime + ra)

/-- Whether group j starts at this instant (R32). -/
def State.mayStart (s : State) (j : Nat) : Bool :=
  match tget? s.gs.groups j, s.groupRec? j with
  | some r, some rec =>
    decide (s.fru.mode.regime = .aspect) && decide (r.aspect = rec.kind.rest) && r.inTarget && !r.lockHeld
      && !s.blocked j && s.entryReached j rec.ra
  | _, _ => false

/-! ### Targets, stage requests and establishment -/

/-- Every group's in-target field for a requested green set, less the locked groups (R28). -/
def Sequencer.retarget (q : Sequencer) (set : Option GroupSet) : Sequencer :=
  { q with
    requested := set
    groups := tmap q.groups fun g r =>
      { r with inTarget := !r.lockHeld && match set with | some b => inSet b g | none => false } }

/-- The GS takes a stage request in RUN, and discards it in any other mode (R28): the target follows it, and each green
not in target whose min green has elapsed ends (R29). -/
def State.gsRequest (s : State) (set : GroupSet) : State :=
  if s.fru.mode ≠ .run then s
  else
    let s := s.onGs fun q => { q.retarget (some set) with reportOwed := true }
    forEach (tkeys s.gs.groups) (fun g s => s.endIfDue g) s

/-- The SC requests stage k of a plan: it becomes the current stage, not established, and the forced stage is cleared
(R51). -/
def State.requestStage (s : State) (p : Plan) (k : Nat) : State :=
  match p.stage? k with
  | none => s
  | some st =>
    (s.onSc fun c => { c with stage := some k, established := false, elapsed := 0, forced := none }).gsRequest st.green

/-- Whether the requested stage is established: each group of the green set not locked is in GREEN, and no other group is
in GREEN or RED_AMBER (R33). -/
def State.stageStands (s : State) (set : GroupSet) : Bool :=
  s.gs.groups.all fun e =>
    if inSet set e.1 then e.2.lockHeld || decide (e.2.aspect = .green)
    else decide (e.2.aspect ≠ .green) && decide (e.2.aspect ≠ .redAmber)

/-- The allowance of an established stage: floor(span / 10) in a FIXED plan (R51). -/
def State.allowanceNow (s : State) : Nat :=
  match s.plan?, s.sc.stage with
  | some p, some k => if p.mode = .fixed then p.span k / 10 else 0
  | _, _ => 0

/-- The report that the requested stage is established, made once for each taken request (R33, R51). -/
def State.checkEstablished (s : State) : State :=
  match s.gs.requested with
  | none => s
  | some set =>
    s.when (decide (s.fru.mode = .run) && s.gs.reportOwed && s.stageStands set) fun s =>
      (s.onGs fun q => { q with reportOwed := false }).onSc fun c =>
        { c with established := true, elapsed := 0, allowance := s.allowanceNow }

/-! ### Lockout -/

/-- A group enters the lockout set (R34). -/
def State.lockGroup (s : State) (g : Nat) : State :=
  let s := s.onGs fun q => q.upd g fun r => { r with lockHeld := true, inTarget := false }
  match s.aspect? g with
  | some .green => s.endGreen .lockout (s.kindOf g).afterLockout g
  | some .redAmber => s.onGs fun q => q.upd g (GroupRun.enter .red)
  | some .clearance => s.onGs fun q => q.upd g (GroupRun.enter .red)
  | _ => s

/-- A group leaves the lockout set: in RUN it rejoins the target if the stage in force names it (R35). -/
def State.unlockGroup (s : State) (g : Nat) : State :=
  let named := match s.gs.requested with
    | some b => inSet b g
    | none => false
  s.onGs fun q => q.upd g fun r => { r with lockHeld := false, inTarget := decide (s.fru.mode = .run) && named }

/-! ### The entry effects of the modes -/

/-- The target set emptied. -/
def State.emptyTarget (s : State) : State := s.onGs fun q => { q.retarget none with reportOwed := false }

/-- One group at the entry to CLEARING (R36). -/
def State.clearGroup (s : State) (g : Nat) : State :=
  match s.aspect? g with
  | some .green => s.endGreen .clearing (s.kindOf g).afterGreen g
  | some .redAmber => s.onGs fun q => q.upd g (GroupRun.enter .red)
  | _ => s

/-- The entry to CLEARING at the GS (R36). -/
def State.gsClear (s : State) : State := forEach (tkeys s.gs.groups) (fun g s => s.clearGroup g) s.emptyTarget

/-- One group cut to rest (R37, R38). -/
def State.cutGroup (cause : EndCause) (s : State) (g : Nat) : State :=
  if s.isGreen g then s.endGreen cause (s.kindOf g).rest g
  else s.onGs fun q => q.upd g (GroupRun.toRest (s.kindOf g).rest)

/-- Every group put at rest, each green stamped and reported with a cause (R37, R38). -/
def State.gsCut (s : State) (cause : EndCause) : State :=
  forEach (tkeys s.gs.groups) (fun g s => s.cutGroup cause g) s.emptyTarget

/-- The entry to START_RED at the GS: every group at rest, its commanded green end time the instant of entry (R39). -/
def State.gsStartRed (s : State) : State :=
  s.emptyTarget.onGs fun q => { q with
    groups := tmap q.groups fun g r => { r.toRest (s.kindOf g).rest with greenEnd := s.uptime } }

/-- The flash pattern started: its first half is lit (R37). -/
def Sequencer.startFlash (q : Sequencer) : Sequencer := { q with flashTimer := 0, flashLit := true }

/-- What the GS does when the junction mode changes (R22, R36 to R40). -/
def State.gsEnter (s : State) (old new : Mode) : State :=
  match new with
  | .clearing => s.gsClear
  | .startFlash | .flash =>
    if old.regime = .flashPattern then s else (s.gsCut .flashNow).onGs Sequencer.startFlash
  | .dark => if old.regime = .allOff then s else s.gsCut .dark
  | .supplyWait => if old.regime = .allOff then s else s.gsCut .supplyLoss
  | .startRed => s.gsStartRed
  | .run => s.emptyTarget

/-- Whether every group is at rest (R36). -/
def State.allAtRest (s : State) : Bool := s.gs.groups.all fun e => decide (e.2.aspect = (s.kindOf e.1).rest)

end Sys2Proof.Machine
end

