-- ==== Sys2Proof/Machine/ModeChange.lean ====
section
/-! DEFINITION. The contactor orders (R149 to R151), plan take-over (R51, R63), and the change of junction mode with its
entry effects (R137 to R142). -/

namespace Sys2Proof.Machine

/-! ### The contactor -/

/-- Whether the drive is released or driven in a contactor state (R149). -/
def Contactor.driven : Contactor → Bool
  | .closing | .closed => true
  | .opened | .opening => false

/-- The contactor takes a state, and the drive follows it (R149). -/
def Supply.setContactor (p : Supply) (k : Contactor) : Supply := { p with contactor := k, drive := k.driven }

/-- The open order: CLOSING and CLOSED go to OPENING with the proving timer at 0; no change in the other states (R149,
R151). -/
def Supply.orderOpen (p : Supply) : Supply :=
  match p.contactor with
  | .closing | .closed => { p.setContactor .opening with provingTimer := 0, lostSeen := false }
  | .opened | .opening => p

/-- The entry to CLOSING: the timer and the run become 0 (R150). -/
def Supply.startClosing (p : Supply) : Supply := { p.setContactor .closing with provingTimer := 0, provingRun := 0 }

/-- Whether CONTACTOR_WELD is latched (R149, R151, R152). -/
def State.weldLatched (s : State) : Bool := s.isLatched .junction .contactorWeld

/-- The close order of a standing start request: OPEN goes to CLOSING, or the order is refused while CONTACTOR_WELD is
latched and the start request is cleared; no change in CLOSING and CLOSED; in OPENING it is given again at OPEN (R139,
R149). -/
def State.orderClose (s : State) : State :=
  match s.spc.contactor with
  | .opened => if s.weldLatched then s.onFru fun f => { f with startRequest := false } else s.onSpc Supply.startClosing
  | .closing | .closed | .opening => s

/-! ### Plan take-over -/

/-- The modes in which a pending plan is taken at once (R63). -/
def Mode.takesAtOnce : Mode → Bool
  | .dark | .startFlash | .flash | .supplyWait => true
  | .startRed | .run | .clearing => false

/-- A pending plan becomes current outside RUN; nothing is requested (R63). -/
def Stages.takePending (c : Stages) : Stages :=
  match c.pending with
  | none => c
  | some k => { c with current := some k, pending := none }

/-- A pending plan is taken at once where the mode takes it so (R63). -/
def State.takeIfAtOnce (s : State) : State := s.when s.fru.mode.takesAtOnce fun s => s.onSc Stages.takePending

/-- Stage 1 of the current plan is requested with the running state started: clock, Δ, allowance, HOLD and forced stage
cleared (R51, R63); the clock is 0 for an ACTUATED plan too (log 33). -/
def State.startPlan (s : State) : State :=
  let s := s.onSc fun c =>
    { c with clock := 0, delta := 0, allowance := 0, hold := 0, forced := none, owed := false, arrivals := [] }
  match s.plan? with
  | none => s
  | some p => s.requestStage p 1

/-- A take-over in RUN (R63). -/
def State.takeOverInRun (s : State) : State := (s.onSc Stages.takePending).startPlan

/-! ### The change of mode -/

/-- The Mode Controller's own state at a change of mode: the all-red timer is none, auto-start is no longer awaited on
leaving DARK, the mode timer is 0 at each entry to START_FLASH and START_RED, and the start request is cleared on the
entry to DARK (R137, R138, R140). -/
def Response.setMode (f : Response) (m : Mode) : Response :=
  { f with
    mode := m
    allRed := none
    autoAwaited := if f.mode = .dark then false else f.autoAwaited
    modeTimer := if m = .startFlash ∨ m = .startRed then 0 else f.modeTimer
    startRequest := if m = .dark then false else f.startRequest }

/-- A change of junction mode with the entry effects of the new mode at every block that owns them (7.4). Naming the mode
that stands changes nothing. -/
def State.enterMode (s : State) (m : Mode) : State :=
  if s.fru.mode = m then s
  else
    let old := s.fru.mode
    let s := s.onFru fun f => f.setMode m
    let s := s.onRu fun r => r.noticeMode s.uptime m
    let s := s.when (decide (old = .run)) fun s => s.onSc Stages.clearRun
    let s := s.gsEnter old m
    let s := s.when (decide (m = .dark)) fun s => s.onSpc Supply.orderOpen
    let s := s.when (decide (m = .run)) fun s => (s.onSc Stages.takePending).startPlan
    s.takeIfAtOnce

/-- The mode a severity takes a junction mode to, when an entry becomes live or an event is latched (R135). -/
def Severity.modeAfter (sev : Severity) (m : Mode) : Mode :=
  match sev with
  | .ignore | .alarm | .lockout => m
  | .flash =>
    match m with
    | .run | .startRed => .clearing
    | .startFlash => .flash
    | .dark | .clearing | .flash | .supplyWait => m
  | .flashNow =>
    match m with
    | .run | .startRed | .clearing | .startFlash => .flash
    | .dark | .flash | .supplyWait => m
  | .dark => .dark

/-! ### The fault table -/

/-- An entry put in the table. -/
def Response.putEntry (f : Response) (key : Nat) (e : FaultEntry) : Response := { f with table := tput f.table key e }

/-- The severity action of R135 on the mode. -/
def State.severityAction (s : State) (sev : Severity) : State := s.enterMode (sev.modeAfter s.fru.mode)

/-- A raise of a state fault, rated by its row (R130); the lockout set is recomputed by `raise`. The notice of a created entry
joins the queue before that of the mode the severity gives (log 49). -/
def State.raiseEntry (s : State) (src : Source) (kind : FaultKind) (row : RowSel) (partner : Nat) : State :=
  let sev := s.dt.live.effective kind row
  let key := faultKey src kind
  if sev = .ignore then s
  else
    match tget? s.fru.table key with
    | none =>
      let s := s.onFru fun f => f.putEntry key ⟨true, true, s.uptime, s.uptime, row, sev, partner⟩
      let s := s.onRu fun r => r.noticeCreated key s.uptime partner
      s.severityAction sev
    | some e =>
      if e.live then s
      else
        (s.onFru fun f => f.putEntry key
          { e with live := true, latched := true, last := s.uptime, row := row, sev := sev, partner := partner }).severityAction sev

/-- An event of an event fault (R130): created latched and not live, or its last change is now; the severity acts at each
latch (log 13), after the entry's notice has joined the queue (log 49). -/
def State.eventEntry (s : State) (src : Source) (kind : FaultKind) : State :=
  let sev := s.dt.live.effective kind .none
  let key := faultKey src kind
  if sev = .ignore then s
  else
    match tget? s.fru.table key with
    | none =>
      let s := s.onFru fun f => f.putEntry key ⟨false, true, s.uptime, s.uptime, .none, sev, 0⟩
      let s := s.onRu fun r => r.noticeCreated key s.uptime 0
      s.severityAction sev
    | some e =>
      let s := s.onFru fun f => f.putEntry key { e with last := s.uptime }
      let s := s.onRu fun r => r.noticeRepeated key
      s.severityAction e.sev

/-- A clear of a state fault: a live entry becomes not live, with the cleared-since mark of its notice (R130, R168). -/
def State.clear (s : State) (src : Source) (kind : FaultKind) : State :=
  let key := faultKey src kind
  match tget? s.fru.table key with
  | none => s
  | some e =>
    if !e.live then s
    else (s.onFru fun f => f.putEntry key { e with live := false, last := s.uptime }).onRu fun r => r.noticeCleared key

/-! ### The lockout set (R136) -/

/-- Whether a circuit has a latched entry of effective severity LOCKOUT. -/
def State.circuitLocks (s : State) (c : Nat) : Bool :=
  s.fru.table.any fun e =>
    keySourceCode e.1 == 2 && keyNumber e.1 == c && e.2.latched && decide (e.2.sev = .lockout)

/-- The defined groups that have a circuit with such an entry. -/
def State.lockoutNow (s : State) : List Nat :=
  (tkeys s.dt.live.groups).filter fun g => s.dt.live.circuits.any fun e => e.2.group == g && s.circuitLocks e.1

/-- Whether at least one group is defined and the lockout set holds every defined group. -/
def State.allLocked (s : State) : Bool :=
  !s.dt.live.groups.isEmpty && (tkeys s.dt.live.groups).all fun g => s.fru.lockout.contains g

/-- The lockout set recomputed: the groups that join it are handed on by R34, those that leave it by R35. -/
def State.relock (s : State) : State :=
  let old := s.fru.lockout
  let new := s.lockoutNow
  let s := s.onFru fun f => { f with lockout := new }
  let s := forEach (new.filter fun g => !old.contains g) (fun g s => s.lockGroup g) s
  forEach (old.filter fun g => !new.contains g) (fun g s => s.unlockGroup g) s

/-- ALL_LOCKED raised or cleared as the lockout set holds every defined group or not (R136). -/
def State.judgeAllLocked (s : State) : State :=
  if s.allLocked then s.raiseEntry .junction .allLocked .none 0 else s.clear .junction .allLocked

/-- The lockout set recomputed with ALL_LOCKED judged, after an entry is created, deleted or re-rated (R136). -/
def State.recomputeLockout (s : State) : State := s.relock.judgeAllLocked

/-- A raise of a state fault at the FRU, with the row and, for CABLE_CROSS, the partner it is sent with (R130, R135,
R136). -/
def State.raiseRow (s : State) (src : Source) (kind : FaultKind) (row : RowSel) (partner : Nat) : State :=
  (s.raiseEntry src kind row partner).recomputeLockout

/-- A raise of a state fault whose kind has one row. -/
def State.raise (s : State) (src : Source) (kind : FaultKind) : State := s.raiseRow src kind .none 0

/-- A raise against a circuit, rated by the row of its role class (R130). -/
def State.raiseCircuit (s : State) (c : Nat) (kind : FaultKind) : State :=
  s.raiseRow (.circuit c) kind (s.dt.live.roleRow c) 0

/-- An event of an event fault at the FRU. -/
def State.event (s : State) (src : Source) (kind : FaultKind) : State := (s.eventEntry src kind).recomputeLockout

/-! ### Entering OPEN -/

/-- A group's shown-green record at the entry of the contactor to OPEN: a showing green is stamped, the episode closes
(R128). The run length, the gap length and the first run mark then stand at 0 and no: R128 gives them no value (log 56, DESIGN
CHOICE). -/
def ShownRun.atOpen (r : ShownRun) : ShownRun :=
  { r with
    ended := if r.episode = .showing then some 0 else r.ended
    episode := .closed
    shown := false
    run := 0
    gapLen := 0
    first := false
    flashCount := 0 }

/-- The CM ends its evaluation at the entry to OPEN (R128). -/
def State.cmOpen (s : State) : State :=
  let s := s.onCm fun m => { groups := tmap m.groups fun _ r => r.atOpen, pairs := tmap m.pairs fun _ _ => 0 }
  (s.clear .junction .conflict).clear .junction .greenInFlash

/-- The contactor enters OPEN: the watch runs and the loss runs become 0, a standing loss is cleared without a return, and
the CM ends its evaluation (R128, R148, R151). -/
def State.enterOpen (s : State) : State :=
  let standing := s.spc.lossStanding
  let s := s.onSpc fun p =>
    { p.setContactor .opened with
      liveRun := 0, deadRun := 0, lostRun := 0, returnRun := 0, lossStanding := false, lostSeen := false }
  let s := s.when standing fun s => s.clear .junction .supplyLost
  s.cmOpen

/-- A start request standing in DARK orders the contactor closed (R139). -/
def State.pursueStart (s : State) : State :=
  s.when (decide (s.fru.mode = .dark) && s.fru.startRequest) State.orderClose

end Sys2Proof.Machine
end

