-- ==== Sys2Proof/Machine/Decide.lean ====
section
/-! DEFINITION. What the Stage Controller decides of its own (R56 to R59, R63), the report of all groups at rest (R36), the
commands of the channels (R26, R37, R38, R41, R84), and the end of every step that may bear on them. -/

namespace Sys2Proof.Machine

/-! ### The decisions of an ACTUATED plan -/

/-- (a) of R56: stage elapsed has reached the stage min. -/
def State.minReached (s : State) (st : Stage) : Bool := decide (s.dt.live.stageMin st ≤ s.sc.elapsed)

/-- (b) of R56: every group of the stage not locked out has gapped out, or stage elapsed has reached the bounded stage
max. -/
def State.stageSpent (s : State) (st : Stage) : Bool :=
  decide (s.dt.live.boundedMax st ≤ s.sc.elapsed) || (setList st.green).all fun g => s.isLocked g || s.gappedOut g

/-- Whether a stage has demand (R56). -/
def State.stageWanted (s : State) (st : Stage) : Bool :=
  (setList st.green).any (fun g => !s.isLocked g) && (st.always || (setList st.green).any fun g => s.demanded g)

/-- The next stage: the first after k in cyclic order that has demand (R57). -/
def State.nextStage? (s : State) (p : Plan) (k : Nat) : Option Nat :=
  ((List.range (p.stages.length - 1)).map fun i => (k + i) % p.stages.length + 1).find? fun n =>
    match p.stage? n with
    | some st => s.stageWanted st
    | none => false

/-- The end tags handed over at a decision, for each group of the ending stage in GREEN and not in the next (R162). -/
def State.tagEnding (s : State) (ending next : GroupSet) : State :=
  forEach ((leaving ending next).filter fun g => s.isGreen g && !s.isLocked g)
    (fun g s => s.ruTag g (if s.gappedOut g then .gapOut else .maxOut)) s

/-- The end of the current stage by R56 and R57: end tags, and the request of the stage chosen. -/
def State.endStage (s : State) (p : Plan) (st : Stage) (n : Nat) : State :=
  match p.stage? n with
  | some next => (s.tagEnding st.green next.green).requestStage p n
  | none => s

/-- The decision of the SC in RUN with an ACTUATED plan, once the stage is established, HOLD is 0 and (a) holds: a forced
stage is requested (R59); else a pending plan is taken (R63); else the stage ends if another is wanted (R56, R57). -/
def State.decideStage (s : State) (p : Plan) (k : Nat) (st : Stage) : State :=
  match s.sc.forced with
  | some f => s.requestStage p f
  | none =>
    let next := s.nextStage? p k
    let spent := s.stageSpent st
    if s.sc.pending.isSome && (spent || next.isNone) then s.takeOverInRun
    else
      match next with
      | some n => if spent then s.endStage p st n else s
      | none => s

/-- Whether the SC may leave the current stage: established, HOLD 0 and (a) of R56. -/
def State.mayLeave (s : State) (st : Stage) : Bool :=
  s.sc.established && decide (s.sc.hold = 0) && s.minReached st

/-- The SC's decision at this instant, where one is due. -/
def State.scDecide (s : State) : State :=
  match s.running? .actuated, s.sc.stage with
  | some p, some k =>
    match p.stage? k with
    | some st => if s.mayLeave st then s.decideStage p k st else s
    | none => s
  | _, _ => s

/-- The report that every group is at rest in CLEARING, at which the all-red timer starts (R36, R140). -/
def State.checkAtRest (s : State) : State :=
  s.when (decide (s.fru.mode = .clearing) && s.fru.allRed.isNone && s.allAtRest) fun s =>
    s.onFru fun f => { f with allRed := some 0 }

/-! ### Commands -/

/-- Whether a role's circuit is lit in an aspect; `lit` says whether a clearance is in a lit half (R26). -/
def Role.litIn (role : Role) (a : Aspect) (lit : Bool) : Bool :=
  match role, a with
  | .red, .red => true
  | .red, .redAmber => true
  | .amber, .redAmber => true
  | .amber, .amber => true
  | .green, .green => true
  | .green, .clearance => lit
  | _, _ => false

/-- The command of a circuit by its group's aspect or the regime's pattern (R26, R37, R38). -/
def State.circuitCommand (s : State) (c : Nat) : Bool :=
  match s.circuitRec? c with
  | none => false
  | some r =>
    match s.fru.mode.regime with
    | .allOff => false
    | .flashPattern => decide (s.kindOf r.group = .vehicle) && decide (r.role = .amber) && s.gs.flashLit
    | .aspect =>
      match tget? s.gs.groups r.group with
      | none => false
      | some run => r.role.litIn run.aspect (run.halves % 2 == 1)

/-- The command of a channel: its mapped circuit's, off where it is unmapped (R41). -/
def State.channelCommand (s : State) (ch : Nat) : Bool :=
  match s.dt.live.mapped? ch with
  | none => false
  | some c => s.circuitCommand c

/-- Whether a circuit's command manner is FLASHING (R84). -/
def State.isFlashing (s : State) (c : Nat) : Bool :=
  match s.circuitRec? c with
  | none => false
  | some r =>
    match s.kindOf r.group, r.role with
    | .vehicle, .amber => decide (s.fru.mode.regime = .flashPattern)
    | .pedestrian, .green => s.aspect? r.group == some .clearance
    | _, _ => false

/-- A pattern test aborted: its source goes to the front of the priority list (R117). -/
def CableUnit.abortTest (u : CableUnit) (t : PatternTest) : CableUnit :=
  { u with test := none, crossList := toFront t.source u.crossList }

/-- Sensors of a test excluded (R117). -/
def PatternTest.exclude (t : PatternTest) (p : Nat → Bool) : PatternTest :=
  { t with sensors := t.sensors.map fun x => { x with excluded := x.excluded || p x.circuit } }

/-- A pattern test interrupted by circuits lit or flashing: aborted for its source, its sensor excluded (R117); a switch at
the close of the 64th half-cycle comes before the completion (log 38). -/
def CableUnit.interrupt (u : CableUnit) (p : Nat → Bool) : CableUnit :=
  match u.test with
  | none => u
  | some t => if p t.source then u.abortTest t else { u with test := some (t.exclude p) }

/-- The Group Sequencer's commands and manners as its groups and the regime stand, with their effect on a pattern test
(R41, R84, R117). -/
def State.refreshCommands (s : State) : State :=
  let s := s.onOb fun b => { b with channels := tmap b.channels fun ch c => { c with command := s.channelCommand ch } }
  let s := s.onPu fun p => { p with circuits := tmap p.circuits fun c r => { r with flashing := s.isFlashing c } }
  s.onCsu fun u => u.interrupt s.isFlashing

/-- The end of a step that may have moved groups, demand or mode: what the blocks then report to one another at the same
instant (R33, R36, R56), and the commands that follow (log 15, log 19). -/
def State.finish (s : State) : State := s.checkAtRest.checkEstablished.scDecide.checkEstablished.refreshCommands

end Sys2Proof.Machine
end

