-- ==== Sys2Proof/Machine/StoreOps.lean ====
section
/-! DEFINITION. The Store Controller's operations: the content of an image, the pending write set, and the start and end of
a write (R171 to R175). -/

namespace Sys2Proof.Machine

/-- The image of the definition, by its code of section 11.8. -/
def imageDefinition : Nat := 1
/-- The image of the reference table. -/
def imageReferences : Nat := 2
/-- The image of a plan slot. -/
def imagePlan (slot : Nat) : Nat := slot + 2

/-- The write time of an image in ms (R171). -/
def writeTime (image : Nat) : Nat := if image = imageDefinition then 1500 else 400

/-- The LEARNED entries of the reference table as they stand (R102); those kept by number while no definition is live
(R177). -/
def State.referenceTable (s : State) : Table RefEntry :=
  if s.dt.valid then
    s.pu.circuits.filterMap fun e => e.2.recorded.map fun lamp => (e.1, ⟨e.2.reference, lamp⟩)
  else s.pu.kept

/-- The plan and identity a slot holds, none for EMPTY. -/
def Slot.content? : Slot → Option (Plan × BitVec 32)
  | .empty => none
  | .valid p id => some (p, id)
  | .invalid p id => some (p, id)

/-- The content of an image as it stands (R171). -/
def State.imageContent (s : State) (image : Nat) : ImageContent :=
  if image = imageDefinition then .definition s.dt.live s.dt.identity
  else if image = imageReferences then .references s.referenceTable
  else .plan ((tget? s.sc.slots (image - 2)).bind Slot.content?)

/-- A circuit's entry of the reference table image: its origin and, for a LEARNED reference, the reference and the recorded
lamp data (R171, log 29). -/
def referenceBytes (t : Table RefEntry) (c : Nat) : List Byte :=
  match tget? t c with
  | some e => byte 1 :: (le 2 e.reference ++ [byte e.lamp.lampType.code, byte e.lamp.lamps] ++ le 2 e.lamp.rated)
  | none => [0]

/-- The bytes of an image's content, over which its CRC-32 is computed (R171, log 29). -/
def ImageContent.bytes : ImageContent → List Byte
  | .definition d id => d.serial ++ le 4 id.toNat
  | .plan (some (p, id)) => p.body ++ le 4 id.toNat
  | .plan none => [0xFF#8]
  | .references t => (List.range Config.circuits).flatMap fun c => referenceBytes t (c + 1)

/-- The CRC-32 an image is stored with (R171). -/
def ImageContent.crc (x : ImageContent) : BitVec 32 := crc32 x.bytes

/-- An area a verified write leaves: INTACT, with the copy and its CRC-32 (R174). -/
def Area.stored (a : Area) (x : ImageContent) : Area := { a with cond := .intact, content := some x, crc := x.crc, torn := [] }

/-- An image's store record changed. -/
def Store.updArea (c : Store) (image : Nat) (f : Area → Area) : Store := { c with areas := tupd c.areas image f }

/-- The pending images in serving order (R173). -/
def Store.pendingImages (c : Store) : List Nat := tkeys (tkeep c.areas fun _ a => decide (a.mark ≠ .none))

/-- The mark of an image. -/
def Store.markOf (c : Store) (image : Nat) : Mark := match tget? c.areas image with | some a => a.mark | none => .none

/-- The start of the next write, where none is in flight and an image is pending (R173). -/
def State.startWrite (s : State) : State :=
  match s.stc.flight, s.stc.pendingImages with
  | none, image :: _ =>
    s.onStc fun c =>
      { c.updArea image fun a => { a with mark := .none } with
        flight := some ⟨image, s.imageContent image, c.markOf image, 0⟩ }
  | _, _ => s

/-- A mark asked for: FIRST where none stands (R172). -/
def Mark.ask : Mark → Mark
  | .none => .first
  | .first => .first
  | .retry => .retry

/-- A block asks for an image to be written (R172). -/
def State.queueWrite (s : State) (image : Nat) : State :=
  (s.onStc fun c => c.updArea image fun a => { a with mark := a.mark.ask }).startWrite

/-- Whether any image is troubled: FAILED, or pending or in flight with RETRY (R175). -/
def Store.troubled (c : Store) : Bool :=
  c.areas.any (fun e => decide (e.2.cond = .failed) || decide (e.2.mark = .retry))
    || match c.flight with
      | some f => decide (f.attempt = .retry)
      | none => false

/-- The identity of the definition image last verified (R178). -/
def storedAfter (f : Flight) (old : Option (BitVec 32)) : Option (BitVec 32) :=
  match f.copy with
  | .definition _ id => some id
  | .plan _ => old
  | .references _ => old

/-- A write that verified: its area is INTACT and holds the copy with its CRC-32 (R174). -/
def State.writeMatched (s : State) (f : Flight) : State :=
  let s := s.onStc fun c =>
    { c.updArea f.image fun a => a.stored f.copy with
      flight := none, storedIdentity := storedAfter f c.storedIdentity }
  (if s.stc.troubled then s else s.clear .junction .storeFault).startWrite

/-- A write that mismatched: a FIRST attempt makes the image pending with RETRY and raises STORE_FAULT, a RETRY leaves its
area FAILED; what the area holds is uncertain (R174, R176). -/
def State.writeMismatched (s : State) (f : Flight) : State :=
  match f.attempt with
  | .retry =>
    (s.onStc fun c =>
      { c.updArea f.image fun a => { a with cond := .failed, torn := a.torn ++ [f.copy] } with flight := none }).startWrite
  | _ =>
    let s := s.onStc fun c =>
      { c.updArea f.image fun a => { a with mark := .retry, torn := a.torn ++ [f.copy] } with flight := none }
    ((s.raise .junction .storeFault).finish).startWrite

end Sys2Proof.Machine
end

