-- ==== Sys2Proof/Machine/LinkOps.lean ====
section
/-! DEFINITION. The Link Interface's operations: replies and their codes (R182), reads in parts (R183), and the link silence
timer (R185). -/

namespace Sys2Proof.Machine

/-! ### Requests -/

/-- Whether the address strap gives the module a link address (R179). -/
def Link.hasAddress (l : Link) : Bool := decide (1 ≤ l.addrStrap.toNat) && decide (l.addrStrap.toNat ≤ 30)

/-- Whether the receiver is open: no reply is in progress and the store load is complete (R177, R180, R181). -/
def State.receiverOpen (s : State) : Bool := s.li.reply.isNone && !s.loading

/-- A request as the LI hands it to its block: one sent while the receiver is closed, or to a module with no address, is not
received and gets nothing (R177, R179, R181). -/
def State.handed (s : State) (f : State → State) : State := s.when (s.receiverOpen && s.li.hasAddress) f

/-- A broadcast as the LI hands it on: it needs an open receiver and no address (R179, R181). -/
def State.handedBroadcast (s : State) (f : State → State) : State := s.when s.receiverOpen f

/-! ### Replies -/

/-- The link address, 0 for a module that has none (R179). -/
def Link.address (l : Link) : Nat := if l.hasAddress then l.addrStrap.toNat else 0

/-- The reply of this module to a request kind; a module with no address replies to nothing (R179, R182). -/
def Link.replyTo (l : Link) (kind : Nat) (body : List Byte) : Option Reply :=
  if l.hasAddress then some ⟨byte (l.address + 0x80), byte (kind + 0x80), body⟩ else none

/-- A request answered: the reply is in progress and the held read is discarded (R181, R183). -/
def State.answer (s : State) (kind : Nat) (body : List Byte) : State :=
  s.onLi fun l => { l with reply := l.replyTo kind body, held := none }

/-- A request for a part answered, with the held read as it stands (R183). -/
def State.answerPart (s : State) (kind : Nat) (body : List Byte) : State :=
  s.onLi fun l => { l with reply := l.replyTo kind body }

/-- OK and CLAMPED with their reply content (R182). -/
def okBody (content : List Byte) : List Byte := 0x00#8 :: content
def clampedBody (content : List Byte) : List Byte := 0x01#8 :: content
/-- OK, or CLAMPED where a value was bounded. -/
def okOrClamped (clamped : Bool) (content : List Byte) : List Byte :=
  if clamped then clampedBody content else okBody content
/-- The refusals and what follows their code (R182). -/
def refusedLength : List Byte := [0x10#8]
def refusedKind : List Byte := [0x11#8]
def refusedField (offset : Nat) : List Byte := [0x12#8, byte offset]
def refusedMode : List Byte := [0x13#8]
def refusedBusy : List Byte := [0x14#8]
def refusedIdentity (id : BitVec 32) : List Byte := 0x15#8 :: le 4 id.toNat
def refusedInvalid (v : Invalid) : List Byte := [0x16#8, byte v.check, byte v.kind, byte v.low, byte v.high]
def refusedFault : List Byte := [0x17#8]
def refusedEmpty : List Byte := [0x18#8]

/-- The refusal of a body that fails R3 or R44. -/
def BodyFault.refusal : BodyFault → List Byte
  | .length => refusedLength
  | .field off => refusedField off

/-! ### Reads in parts -/

/-- The number of parts a content is sent in (R183). -/
def partCount (content : List Byte) : Nat := max 1 ((content.length + (Config.partBytes - 1)) / Config.partBytes)

/-- The reply content of part p: part number, part count, and bytes 236 × p onward, up to 236 of them (R183). -/
def partContent (content : List Byte) (p : Nat) : List Byte :=
  byte p :: byte (partCount content) :: (content.drop (Config.partBytes * p)).take Config.partBytes

/-- A request with part number 0 answered: the content is kept as the held read and its first part sent (R183). -/
def State.answerHeld (s : State) (kind : Nat) (request content : List Byte) : State :=
  s.onLi fun l =>
    { l with reply := l.replyTo kind (okBody (partContent content 0)), held := some ⟨kind, request, content⟩ }

/-- A request for part p ≥ 1, answered from the held read (R183). -/
def State.answerFromHeld (s : State) (kind : Nat) (request : List Byte) (part partOffset : Nat) : State :=
  match s.li.held with
  | some h =>
    if h.kind = kind ∧ h.body = request then
      if part < partCount h.content then s.answerPart kind (okBody (partContent h.content part))
      else s.answerPart kind (refusedField partOffset)
    else s.answerPart kind refusedEmpty
  | none => s.answerPart kind refusedEmpty

/-! ### The link silence timer -/

/-- The link silence time of the live junction record, 0 while there is none. -/
def State.silenceTime (s : State) : Nat := match s.dt.live.junction with | some j => j.linkSilence | none => 0

/-- The start of the timer: RUNNING with the whole time, or OFF while there is no definition or the time is 0 (R185). -/
def State.startSilence (s : State) : State :=
  s.onLi fun l =>
    if s.dt.valid && decide (s.silenceTime ≠ 0) then { l with silence := .running, remaining := s.silenceTime }
    else { l with silence := .off, remaining := 0 }

/-- A good frame to the module or broadcast: a RUNNING timer restarts, an EXPIRED one is cleared first (R185). -/
def State.heardFrame (s : State) : State :=
  match s.li.silence with
  | .off => s
  | .running => s.startSilence
  | .expired => (s.clear .junction .linkSilent).startSilence

end Sys2Proof.Machine
end

