-- ==== Sys2Proof/Machine/Flags.lean ====
section
/-! DEFINITION. The packed flag bytes of the replies (sections 11.6 and 11.8). -/

namespace Sys2Proof.Machine

/-- A byte from its bits, bit 0 first. -/
def packBits : List Bool → Nat
  | [] => 0
  | b :: r => (if b then 1 else 0) + 2 * packBits r

/-- The flags byte of STATUS: start request, auto-start awaited, live definition VALID, overflow mark, recording-active
switch (section 11.6). -/
def State.statusFlags (s : State) : Byte :=
  byte (packBits [s.fru.startRequest, s.fru.autoAwaited, s.dt.valid, s.ru.overflow, s.ru.active])

/-- The flags byte of CABLE_READ: warn raised, fault raised, in measurement (section 11.8). -/
def cableFlags (r : LeakRun) (measuring : Bool) : Byte := byte (packBits [r.warn.raised, r.fault.raised, measuring])

/-- The live and latched bits of a key in the fault table, both no where it has no entry (section 11.8, R169). -/
def Response.entryBits (f : Response) (key : Nat) : List Bool :=
  match tget? f.table key with
  | some e => [e.live, e.latched]
  | none => [false, false]

/-- The substituted byte of DETECTOR_READ: by DET_STUCK_ON, by DET_STUCK_OFF (section 11.8). -/
def State.substitutedFlags (s : State) (d : Nat) : Byte :=
  byte (packBits [s.isLive (.detector d) .detStuckOn, s.isLive (.detector d) .detStuckOff])

end Sys2Proof.Machine
end

