-- ==== Sys2Proof/Machine/Operands.lean ====
section
/-! DEFINITION. The checks of the fields of a request, in the order their rules give: the offset of the first that fails
(R182). An option byte holds 0 or 1 and is checked after the fields before it. -/

namespace Sys2Proof.Machine

/-- Whether an option byte is 0 or 1 (R182). -/
def optionOk (b : Byte) : Bool := decide (b.toNat ≤ 1)

/-- Whether an option is set. -/
def optionSet (b : Byte) : Bool := b == 1#8

/-- A request whose fields are checked: refused with the first offset that fails, or carried out. -/
def State.checkFields (s : State) (kind : Nat) (checks : List (Nat × Bool)) (act : State → State) : State :=
  match firstFailing checks with
  | some off => s.answer kind (refusedField off)
  | none => act s

/-- GROUP_READ: a defined group (R42). -/
def State.groupReadChecks (s : State) (group : Byte) : List (Nat × Bool) := [(0, thas s.dt.live.groups group.toNat)]

/-- CIRCUIT_READ: a defined circuit, then the clear option (R103). -/
def State.circuitReadChecks (s : State) (circuit clear : Byte) : List (Nat × Bool) :=
  [(0, thas s.dt.live.circuits circuit.toNat), (1, optionOk clear)]

/-- CABLE_READ: a defined cable, then the clear option (R122). -/
def State.cableReadChecks (s : State) (cable clear : Byte) : List (Nat × Bool) :=
  [(0, thas s.dt.live.cables cable.toNat), (1, optionOk clear)]

/-- DETECTOR_READ: a defined detector (R78). -/
def State.detectorReadChecks (s : State) (detector : Byte) : List (Nat × Bool) :=
  [(0, thas s.dt.live.detectors detector.toNat)]

/-- FAULT_READ ENTRIES: a source kind or FF hex for all, then a number in range (R132); with all sources the number is not
read (log 12). -/
def faultEntriesChecks (kind number : Byte) : List (Nat × Bool) :=
  [(1, kind == 0xFF#8 || (sourceTop? kind.toNat).isSome),
   (2, kind == 0xFF#8 || sourceNumberOk kind.toNat number.toNat)]

/-- Whether a row selector is listed for a fault kind (R10). -/
def rowListed (kind selector : Byte) : Bool :=
  match kindOfCode? kind.toNat, rowOfCode? selector.toNat with
  | some k, some r => (rowBounds? k r).isSome
  | _, _ => false

/-- FAULT_READ ROWS: a fault kind, then a selector listed for it (R132). -/
def faultRowsChecks (kind selector : Byte) : List (Nat × Bool) :=
  [(1, (kindOfCode? kind.toNat).isSome), (2, rowListed kind selector)]

/-- RECORD_READ: a group or detector source kind, a defined number, then the clear option (R166). -/
def State.recordReadChecks (s : State) (kind number clear : Byte) : List (Nat × Bool) :=
  [(0, kind == 1#8 || kind == 4#8),
   (1, if kind = 1#8 then thas s.dt.live.groups number.toNat else thas s.dt.live.detectors number.toNat),
   (2, optionOk clear)]

/-- NOTICE_FETCH: the repeat option (R169, R182). -/
def noticeFetchChecks (again : Byte) : List (Nat × Bool) := [(0, optionOk again)]

/-- LATCH_CLEAR: source kind, number, and a fault kind code or FF hex for all (R131). -/
def latchClearChecks (kind number code : Byte) : List (Nat × Bool) :=
  [(0, (sourceTop? kind.toNat).isSome), (1, sourceNumberOk kind.toNat number.toNat),
   (2, code == 0xFF#8 || (kindOfCode? code.toNat).isSome)]

/-- DEMAND: every group named is defined (R53). -/
def State.demandChecks (s : State) (groups : GroupSet) : List (Nat × Bool) := [(0, allDefined s.dt.live.groups groups)]

/-- LEARN and LEARN_CANCEL: every circuit named is defined (R98, R101). -/
def State.learnChecks (s : State) (circuits : CircuitSet) : List (Nat × Bool) :=
  [(0, allDefined s.dt.live.circuits circuits)]

/-- CABLE_TEST LEAK: a defined cable (R112). -/
def State.leakTestChecks (s : State) (cable : Byte) : List (Nat × Bool) := [(1, thas s.dt.live.cables cable.toNat)]

/-- Whether a circuit's live record has cross_test set. -/
def State.crossTested (s : State) (c : Nat) : Bool := match s.circuitRec? c with | some r => r.crossTest | none => false

/-- CABLE_TEST CROSS: a defined circuit with cross_test (R120). -/
def State.crossTestChecks (s : State) (circuit : Byte) : List (Nat × Bool) := [(1, s.crossTested circuit.toNat)]

/-- Whether a number is a plan slot's. -/
def slotOk (slot : Byte) : Bool := decide (1 ≤ slot.toNat) && decide (slot.toNat ≤ Config.slots)

/-- RECORD_CONTROL: switch order, group set, group enable, group format, detector set, detector enable (R165). -/
def State.recordControlChecks (s : State) (order : Byte) (groups : GroupSet) (enable format : Byte)
    (detectors : GroupSet) (detEnable : Byte) : List (Nat × Bool) :=
  [(0, decide (order.toNat ≤ 2)), (1, allDefined s.dt.live.groups groups), (5, optionOk enable), (6, optionOk format),
   (7, allDefined s.dt.live.detectors detectors), (11, optionOk detEnable)]

end Sys2Proof.Machine
end

