-- ==== Sys2Proof/Machine/Replies.lean ====
section
/-! DEFINITION. The reply contents of sections 11.6 and 11.8. -/

namespace Sys2Proof.Machine

/-- A signed 16-bit value as its two bytes. -/
def leInt16 (v : Int) : List Byte := le 2 (v % 65536).toNat

/-- An optional number as one byte, 0 for none. -/
def optByte (o : Option Nat) : Byte := byte (o.getD 0)

/-- An optional uptime as four bytes, FFFFFFFF hex for none. -/
def optTime (o : Option Nat) : List Byte := le 4 (o.getD 0xFFFFFFFF)

/-- A count in one byte; above 255 the spec states no value (log 30). -/
def countByte (n : Nat) : Byte := if n ≤ 255 then byte n else Config.countByte n

/-- The shown-green set (R123). -/
def Monitor.shownSet (m : Monitor) : BitVec 32 := setOfList 32 (tkeys (tkeep m.groups fun _ r => r.shown))

/-- The 39 bytes of STATUS after the reply code (section 11.6). -/
def State.statusContent (s : State) : List Byte :=
  [byte s.fru.mode.code, s.statusFlags] ++ le 4 s.dt.identity.toNat ++ le 2 s.fru.modeTimer
    ++ [byte (s.fru.allRed.getD 0xFF), optByte s.sc.current, optByte s.sc.pending, optByte s.sc.stage,
        bit s.sc.established]
    ++ le 2 s.sc.elapsed ++ le 2 s.sc.clock ++ leInt16 s.sc.delta ++ [byte s.sc.allowance] ++ le 2 s.sc.hold
    ++ [optByte s.sc.forced] ++ le 4 s.cm.shownSet.toNat ++ le 2 s.spc.volts
    ++ [byte s.spc.condition.code, byte s.spc.contactor.code, optByte s.spc.frequency, byte s.ru.queue.length]
    ++ le 4 s.uptime ++ [byte s.li.silence.code, byte s.li.address]

/-- The content of IDENT (R184). -/
def State.identContent (s : State) : List Byte :=
  le 2 Config.product ++ [byte s.li.address, bit s.li.rateStrap, byte Config.bodyMax]

/-- The form and value of a group's earliest green start (R42). -/
def State.earliestContent (s : State) (g : Nat) : List Byte :=
  if s.blocked g then byte 2 :: le 4 0
  else
    match s.earliest? g with
    | none => byte 1 :: le 4 0
    | some t => byte 0 :: le 4 t

/-- The content of GROUP_READ (R42). -/
def State.groupContent (s : State) (g : Nat) : List Byte :=
  match s.groupRec? g, tget? s.gs.groups g with
  | some rec, some r =>
    [byte rec.kind.code, byte r.aspect.code] ++ le 2 r.timer ++ optTime r.greenStart ++ le 4 r.greenEnd
      ++ [bit r.minElapsed, bit r.lockHeld, bit r.inTarget] ++ s.earliestContent g
  | _, _ => []

/-- The filtered current f in mA (R88). -/
def CircuitRun.filtered (r : CircuitRun) : Nat := (r.filter + 8) / 16

/-- The recorded lamp data as CIRCUIT_READ carries them (section 11.8). -/
def recordedContent : Option LampData → List Byte
  | none => [0xFF#8, 0#8] ++ le 2 0
  | some d => [byte d.lampType.code, byte d.lamps] ++ le 2 d.rated

/-- The content of CIRCUIT_READ (R103). -/
def State.circuitContent (s : State) (c : Nat) : List Byte :=
  match s.circuitRec? c, tget? s.pu.circuits c with
  | some rec, some r =>
    [byte rec.channel, bit r.channelOn, bit r.flashing, byte r.settle] ++ le 2 r.latestS ++ le 2 r.latestC
      ++ le 2 r.filtered ++ [byte r.lit, byte (match r.candidate with | some k => k.code | none => 0), byte r.counter,
        byte r.confirmed.code]
      ++ le 2 r.reference ++ [bit r.recorded.isSome] ++ recordedContent r.recorded
      ++ [bit r.learning, byte r.learnCount, byte r.episodes, bit r.showing]
  | _, _ => []

/-- The content of DETECTOR_READ (R78); the gap timer's field is 0 while its form is none (log 35). -/
def State.detectorContent (s : State) (d : Nat) : List Byte :=
  match s.detectorRec? d, tget? s.du.dets d with
  | some rec, some r =>
    [byte rec.kind.code, bit r.raw, bit r.level, byte r.run] ++ le 2 r.presence ++ [bit r.gap.isSome]
      ++ le 2 (r.gap.getD 0) ++ le 4 r.absence ++ [s.substitutedFlags d] ++ le 2 r.activations ++ le 2 r.occupied
      ++ le 2 r.classCount ++ le 4 (s.du.intervalStart + 600)
  | _, _ => []

/-- The circuits the live definition places on a cable, in ascending number. -/
def State.cableCircuits (s : State) (cable : Nat) : Table CircuitRec :=
  tkeep s.dt.live.circuits fun _ r => r.cable == cable

/-- The cable of a circuit, 0 for a circuit not defined. -/
def State.cableOf (s : State) (c : Nat) : Nat := match s.circuitRec? c with | some r => r.cable | none => 0

/-- One circuit entry of CABLE_READ (section 11.8). -/
def State.cableEntry (s : State) (c : Nat) (rec : CircuitRec) : List Byte :=
  let dark := (tget? s.csu.dark c).getD ⟨0, 0, 0, false⟩
  let loop := (tget? s.csu.loops c).getD ⟨none, 0, 0⟩
  [byte c, byte dark.age] ++ le 2 dark.time ++ [bit rec.loopTest, byte (loopCode loop.last)] ++ le 2 loop.openRun
    ++ le 2 loop.clearRun

/-- The test block of CABLE_READ (section 11.8), the sensors in rising number (log 39), the index 0 with no test on the cable
(log 46). -/
def State.testContent (s : State) (cable : Nat) : List Byte :=
  match s.csu.test with
  | some t =>
    if s.cableOf t.source = cable then
      [byte 1, byte t.source, byte t.index, byte t.sensors.length]
        ++ t.sensors.flatMap fun x => [byte x.circuit, byte x.count, bit x.excluded]
    else [0, 0, 0, 0]
  | none => [0, 0, 0, 0]

/-- The pair block of CABLE_READ (section 11.8), the pairs rising by source and then by sensor (log 39). -/
def State.pairContent (s : State) (cable : Nat) : List Byte :=
  let pairs := tkeep s.csu.pairs fun k _ => s.cableOf (k / 256) == cable
  countByte pairs.length :: pairs.flatMap fun e =>
    [byte (e.1 / 256), byte (e.1 % 256), byte e.2.positive, byte e.2.negative, bit e.2.crossed]

/-- A number's place in a list, 1 for the front, 0 where it is not in it. -/
def placeIn (n : Nat) (l : List Nat) : Nat :=
  match l.findIdx? (· == n) with
  | some i => i + 1
  | none => 0

/-- The content of CABLE_READ (R122); the half-cycles dwelt of a cable not in measurement are sent as 0 (log 46). -/
def State.cableContent (s : State) (cable : Nat) : List Byte :=
  match s.cableRec? cable, tget? s.csu.leaks cable with
  | some rec, some r =>
    let measuring := s.csu.measuring == some cable
    let circuits := s.cableCircuits cable
    [byte rec.warnLevel] ++ le 2 rec.faultLevel ++ le 2 (r.last.getD 0xFFFF)
      ++ [byte r.warn.above, byte r.warn.below, byte r.fault.above, byte r.fault.below, cableFlags r measuring,
          byte r.crossings, byte (if measuring then s.csu.dwelt else 0), byte (placeIn cable s.csu.leakList),
          byte circuits.length]
      ++ circuits.flatMap (fun e => s.cableEntry e.1 e.2) ++ s.testContent cable ++ s.pairContent cable
  | _, _ => []

/-- A fault entry of FAULT_READ (section 11.8). -/
def Response.entryContent (f : Response) (key : Nat) (e : FaultEntry) : List Byte :=
  [byte (keySourceCode key), byte (keyNumber key), byte (keyKindCode key), byte (packBits (f.entryBits key))]
    ++ le 4 e.first ++ le 4 e.last ++ [byte e.row.code, byte e.sev.code, byte e.partner]

/-- The entries of a source, or of all sources for FF hex, in the order of R132. -/
def Response.matching (f : Response) (kind number : Nat) : Table FaultEntry :=
  tkeep f.table fun k _ => kind == 0xFF || (keySourceCode k == kind && keyNumber k == number)

/-- The pairs that stand confirmed (R123). -/
def Monitor.confirmedPairs (m : Monitor) : List Nat := tkeys (tkeep m.pairs fun _ n => n == 2)

/-- The content of FAULT_READ ENTRIES: up to 12 entries from the starting position, and the pairs confirmed where the
CONFLICT entry is among them, rising by i and then j (R132, log 39). -/
def State.entriesContent (s : State) (kind number start : Nat) : List Byte :=
  let found := s.fru.matching kind number
  let sent := (found.drop start).take 12
  let pairs := if thas sent (faultKey .junction .conflict) then s.cm.confirmedPairs else []
  le 2 found.length ++ [byte sent.length] ++ sent.flatMap (fun e => s.fru.entryContent e.1 e.2)
    ++ countByte pairs.length :: pairs.flatMap fun k => [byte (k / 256), byte (k % 256)]

/-- The content of FAULT_READ ROWS (R132). -/
def State.rowsContent (s : State) (kind selector : Nat) : List Byte :=
  match kindOfCode? kind, rowOfCode? selector with
  | some k, some r =>
    match rowBounds? k r with
    | some b =>
      [match tget? s.dt.live.severities (severityKey k r) with | some v => byte v.code | none => 0xFF#8,
       byte b.default.code, byte b.floor.code, byte b.max.code, byte (s.dt.live.effective k r).code]
    | none => []
  | _, _ => []

/-- The content of RECORD_READ for a group (R166). -/
def GroupService.content (r : GroupService) : List Byte :=
  le 4 r.greens.toNat ++ le 4 r.greenDs.toNat ++ le 4 r.served.toNat ++ le 4 r.waitDs.toNat ++ le 2 r.lastWait
    ++ le 2 r.maxWait ++ [bit r.cfgEnable, bit r.cfgExtended, bit r.enable, bit r.extended, bit r.capture.isSome]
    ++ le 4 (match r.capture with | some c => c.start | none => 0) ++ optTime r.wait
    ++ if r.extended then le 4 r.gapOuts.toNat ++ le 4 r.maxOuts.toNat ++ le 4 r.forced.toNat else []

/-- The content of RECORD_READ for a detector (R166), in which section 11.8 gives the record's kind no field (log 36). -/
def DetService.content (r : DetService) : List Byte :=
  le 2 r.lastActivations ++ le 2 r.lastOccupied ++ [byte r.lastOccupancy] ++ optTime r.lastEnd
    ++ le 4 r.activations.toNat ++ le 4 r.occupied.toNat ++ le 4 r.classCount.toNat
    ++ [bit r.cfgEnable, bit r.enable, bit r.armed]

/-- The image record of STORE_STATUS. -/
def State.imageRecord (s : State) (image : Nat) (a : Area) : List Byte :=
  [byte a.cond.code, bit (!a.loadedIntact), byte a.mark.code, bit (s.writing image)]

/-- The write in flight as STORE_STATUS carries it, its elapsed time 0 with none (R178, log 47). -/
def flightContent : Option Flight → List Byte
  | none => [0, 0] ++ le 2 0
  | some f => [byte f.image, byte f.attempt.code] ++ le 2 f.elapsed

/-- A slot as STORE_STATUS carries it (R43). -/
def Slot.content : Slot → List Byte
  | .empty => byte 0 :: le 4 0
  | .valid _ id => byte 1 :: le 4 id.toNat
  | .invalid _ id => byte 2 :: le 4 id.toNat

/-- The content of STORE_STATUS (R178); the stored identity is sent as 0 while none is present (log 47). -/
def State.storeContent (s : State) : List Byte :=
  let pending := s.stc.pendingImages
  s.stc.areas.flatMap (fun e => s.imageRecord e.1 e.2) ++ flightContent s.stc.flight ++ [byte pending.length]
    ++ (pending.map byte ++ List.replicate (10 - pending.length) 0#8) ++ s.sc.slots.flatMap (fun e => e.2.content)
    ++ [bit s.stc.storedIdentity.isSome] ++ le 4 (s.stc.storedIdentity.getD 0).toNat

/-- The MODE notice's kind code (section 11.6). -/
def modeNoticeCode : Nat := 0x1A

/-- A notice as NOTICE_FETCH carries it, with the live and latched state of its key at the fetch (R169). -/
def Response.noticeContent (f : Response) : Notice → List Byte
  | .fault key first partner cleared repeated =>
    [byte (keySourceCode key), byte (keyNumber key), byte (keyKindCode key)] ++ le 4 first
      ++ [byte partner, byte (packBits (f.entryBits key ++ [cleared, repeated]))]
  | .mode time m => [0, 0, byte modeNoticeCode] ++ le 4 time ++ [byte m.code, 0]

end Sys2Proof.Machine
end

