-- ==== Sys2Proof/Machine/Reads.lean ====
section
/-! DEFINITION. The read requests: IDENT, STATUS, GROUP_READ, CIRCUIT_READ, CABLE_READ, DETECTOR_READ, FAULT_READ, RECORD_READ,
STORE_STATUS and NOTICE_FETCH. Each request is a change of state (its reply), which the row's own meaning carries out. -/

namespace Sys2Proof.Machine

/-- The outcome of a command. -/
abbrev Out := Host.Outcome State Fault Refusal

/-! ### The requests -/

/-- IDENT (R184). -/
def State.reqIdent (s : State) : State := s.answer Machine.reqIdent (okBody s.identContent)

/-- STATUS (R184). -/
def State.reqStatus (s : State) : State := s.answer Machine.reqStatus (okBody s.statusContent)

/-- GROUP_READ (R42). -/
def State.reqGroupRead (s : State) (group : Byte) : State :=
  s.checkFields Machine.reqGroupRead (s.groupReadChecks group) fun s =>
    s.answer Machine.reqGroupRead (okBody (s.groupContent group.toNat))

/-- The episode counter set to 0 by a clear option (R103). -/
def State.clearEpisodes (s : State) (c : Nat) : State :=
  s.onPu fun p => { p with circuits := tupd p.circuits c fun r => { r with episodes := 0 } }

/-- CIRCUIT_READ (R103). -/
def State.reqCircuitRead (s : State) (circuit clear : Byte) : State :=
  s.checkFields Machine.reqCircuitRead (s.circuitReadChecks circuit clear) fun s =>
    (s.answer Machine.reqCircuitRead (okBody (s.circuitContent circuit.toNat))).when (optionSet clear) fun s =>
      s.clearEpisodes circuit.toNat

/-- The leak crossings set to 0 by a clear option (R122). -/
def State.clearCrossings (s : State) (cable : Nat) : State :=
  s.onCsu fun u => { u with leaks := tupd u.leaks cable fun r => { r with crossings := 0 } }

/-- CABLE_READ, in parts (R122, R183). The field checks of R122 are made at part number 0; a later part is judged by the held
read alone, so that one which matches none is REFUSED_EMPTY whatever cable it names (log 52, DESIGN CHOICE). -/
def State.reqCableRead (s : State) (cable clear part : Byte) : State :=
  if part = 0#8 then
    s.checkFields Machine.reqCableRead (s.cableReadChecks cable clear) fun s =>
      (s.answerHeld Machine.reqCableRead [cable, clear] (s.cableContent cable.toNat)).when (optionSet clear) fun s =>
        s.clearCrossings cable.toNat
  else s.answerFromHeld Machine.reqCableRead [cable, clear] part.toNat 2

/-- DETECTOR_READ (R78). -/
def State.reqDetectorRead (s : State) (detector : Byte) : State :=
  s.checkFields Machine.reqDetectorRead (s.detectorReadChecks detector) fun s =>
    s.answer Machine.reqDetectorRead (okBody (s.detectorContent detector.toNat))

/-- FAULT_READ in the ENTRIES form, in parts; a later part is judged by the held read alone (R132, R183, log 52). -/
def State.reqFaultEntries (s : State) (kind number start part : Byte) : State :=
  if part = 0#8 then
    s.checkFields Machine.reqFaultRead (faultEntriesChecks kind number) fun s =>
      s.answerHeld Machine.reqFaultRead [0#8, kind, number, start]
        (s.entriesContent kind.toNat number.toNat start.toNat)
  else s.answerFromHeld Machine.reqFaultRead [0#8, kind, number, start] part.toNat 4

/-- FAULT_READ in the ROWS form, in parts; the starting position is ignored, and a later part is judged by the held read
alone (R132, R183, log 52). -/
def State.reqFaultRows (s : State) (kind selector start part : Byte) : State :=
  if part = 0#8 then
    s.checkFields Machine.reqFaultRead (faultRowsChecks kind selector) fun s =>
      s.answerHeld Machine.reqFaultRead [1#8, kind, selector, start] (s.rowsContent kind.toNat selector.toNat)
  else s.answerFromHeld Machine.reqFaultRead [1#8, kind, selector, start] part.toNat 4

/-- The nine counts of a group's record set to 0 (R166). -/
def GroupService.zeroCounts (r : GroupService) : GroupService :=
  { r with greens := 0, greenDs := 0, served := 0, waitDs := 0, lastWait := 0, maxWait := 0, gapOuts := 0, maxOuts := 0,
           forced := 0 }

/-- The figures and totals of a detector's record set to 0, and its last recorded end to none (R166). -/
def DetService.zeroCounts (r : DetService) : DetService :=
  { r with lastActivations := 0, lastOccupied := 0, lastOccupancy := 0, lastEnd := none, activations := 0, occupied := 0,
           classCount := 0 }

/-- The content of the record a RECORD_READ names. -/
def State.recordContent (s : State) (kind number : Byte) : List Byte :=
  if kind = 1#8 then (match tget? s.ru.groups number.toNat with | some r => r.content | none => [])
  else (match tget? s.ru.dets number.toNat with | some r => r.content | none => [])

/-- The counts of the record a RECORD_READ names set to 0 (R166). -/
def State.clearRecord (s : State) (kind number : Byte) : State :=
  s.onRu fun r =>
    if kind = 1#8 then { r with groups := tupd r.groups number.toNat GroupService.zeroCounts }
    else { r with dets := tupd r.dets number.toNat DetService.zeroCounts }

/-- RECORD_READ (R166). -/
def State.reqRecordRead (s : State) (kind number clear : Byte) : State :=
  s.checkFields Machine.reqRecordRead (s.recordReadChecks kind number clear) fun s =>
    (s.answer Machine.reqRecordRead (okBody (s.recordContent kind number))).when (optionSet clear) fun s =>
      s.clearRecord kind number

/-- STORE_STATUS (R178). -/
def State.reqStoreStatus (s : State) : State := s.answer Machine.reqStoreStatus (okBody s.storeContent)

/-- The content of a NOTICE_FETCH reply (section 11.6). -/
def noticeBatch (batch : List (List Byte)) (left : Nat) (overflow : Bool) : List Byte :=
  [byte batch.length, byte left, bit overflow] ++ batch.flatten

/-- A fetch without the repeat option: up to 8 notices leave the front of the queue; an overflow mark is reported and
cleared where none is left (R169). -/
def State.fetchNotices (s : State) : State :=
  let batch := (s.ru.queue.take 8).map s.fru.noticeContent
  let left := s.ru.queue.drop 8
  let report := left.isEmpty && s.ru.overflow
  (s.answer Machine.reqNoticeFetch (okBody (noticeBatch batch left.length report))).onRu fun r =>
    { r.setQueue left (r.overflow && !left.isEmpty) with lastBatch := batch, lastOverflow := report }

/-- A fetch with the repeat option: the last batch again with the overflow report it was returned with, and nothing removed
(R169). Where the last batch is an empty one fetched with an overflow report of yes, R169 says both that the report is the same
and that a repeat of an empty last batch reports no; the model repeats the yes (log 57, DESIGN CHOICE). -/
def State.repeatNotices (s : State) : State :=
  s.answer Machine.reqNoticeFetch (okBody (noticeBatch s.ru.lastBatch s.ru.queue.length s.ru.lastOverflow))

/-- NOTICE_FETCH (R169). -/
def State.reqNoticeFetch (s : State) (again : Byte) : State :=
  s.checkFields Machine.reqNoticeFetch (noticeFetchChecks again) fun s =>
    if optionSet again then s.repeatNotices else s.fetchNotices

/-! ### The meanings -/

/-- IDENT. -/
def execIdent (s : State) : Out := .next (s.handed State.reqIdent)
/-- STATUS. -/
def execStatus (s : State) : Out := .next (s.handed State.reqStatus)
/-- GROUP_READ. -/
def execGroupRead (group : Byte) (s : State) : Out := .next (s.handed fun s => s.reqGroupRead group)
/-- CIRCUIT_READ. -/
def execCircuitRead (circuit clear : Byte) (s : State) : Out := .next (s.handed fun s => s.reqCircuitRead circuit clear)
/-- CABLE_READ. -/
def execCableRead (cable clear part : Byte) (s : State) : Out := .next (s.handed fun s => s.reqCableRead cable clear part)
/-- DETECTOR_READ. -/
def execDetectorRead (detector : Byte) (s : State) : Out := .next (s.handed fun s => s.reqDetectorRead detector)
/-- FAULT_READ_ENTRIES. -/
def execFaultReadEntries (kind number start part : Byte) (s : State) : Out :=
  .next (s.handed fun s => s.reqFaultEntries kind number start part)
/-- FAULT_READ_ROWS. -/
def execFaultReadRows (kind selector start part : Byte) (s : State) : Out :=
  .next (s.handed fun s => s.reqFaultRows kind selector start part)
/-- RECORD_READ. -/
def execRecordRead (kind number clear : Byte) (s : State) : Out :=
  .next (s.handed fun s => s.reqRecordRead kind number clear)
/-- STORE_STATUS. -/
def execStoreStatus (s : State) : Out := .next (s.handed State.reqStoreStatus)
/-- NOTICE_FETCH. -/
def execNoticeFetch (again : Byte) (s : State) : Out := .next (s.handed fun s => s.reqNoticeFetch again)

end Sys2Proof.Machine
end

