-- ==== Sys2Proof/Machine/Orders.lean ====
section
/-! DEFINITION. The orders of the host that touch the running junction: LATCH_CLEAR, DEMAND, HOLD, RELEASE, FORCE_STAGE,
PLAN_SELECT, SYNC, LEARN, LEARN_CANCEL, CABLE_TEST and RECORD_CONTROL. -/

namespace Sys2Proof.Machine

/-! ### LATCH_CLEAR -/

/-- Whether a key matches a LATCH_CLEAR: its source, and its kind or FF hex for all kinds (R131). -/
def latchMatches (kind number code : Byte) (key : Nat) : Bool :=
  keySourceCode key == kind.toNat && keyNumber key == number.toNat && (code == 0xFF#8 || keyKindCode key == code.toNat)

/-- A LATCH_CLEAR taken: every matching entry that is not live is deleted, and the lockout set recomputed (R131). -/
def State.takeLatchClear (s : State) (kind number code : Byte) : State :=
  let found := tkeep s.fru.table fun k _ => latchMatches kind number code k
  let left := (found.filter fun e => e.2.live).length
  let s := s.answer Machine.reqLatchClear (okBody [byte (found.length - left), byte left])
  let s := s.onFru fun f => { f with table := tkeep f.table fun k e => e.live || !latchMatches kind number code k }
  s.recomputeLockout.finish

/-- LATCH_CLEAR (R131). -/
def State.reqLatchClear (s : State) (kind number code : Byte) : State :=
  s.checkFields Machine.reqLatchClear (latchClearChecks kind number code) fun s => s.takeLatchClear kind number code

/-! ### The Stage Controller's orders -/

/-- DEMAND: LINK origin for every group named that is not in GREEN (R53). -/
def State.reqDemand (s : State) (groups : GroupSet) : State :=
  s.checkFields Machine.reqDemand (s.demandChecks groups) fun s =>
    (forEach (setList groups) (fun g s => s.addDemand .link g) (s.answer Machine.reqDemand (okBody []))).finish

/-- The HOLD timer's largest value in ds (R58). -/
def holdMax : Nat := 1200

/-- HOLD (R58). -/
def State.reqHold (s : State) (duration : BitVec 16) : State :=
  match s.running? .actuated with
  | none => s.answer Machine.reqHold refusedMode
  | some _ =>
    if duration.toNat = 0 then s.answer Machine.reqHold (refusedField 0)
    else
      (s.answer Machine.reqHold (okOrClamped (decide (holdMax < duration.toNat)) [])).onSc fun c =>
        { c with hold := min duration.toNat holdMax }

/-- RELEASE: the HOLD timer becomes 0, and the stage may end at this instant (R58). -/
def State.reqRelease (s : State) : State :=
  ((s.answer Machine.reqRelease (okBody [])).onSc fun c => { c with hold := 0 }).finish

/-- FORCE_STAGE (R59). -/
def State.reqForceStage (s : State) (stage : Byte) : State :=
  match s.running? .actuated with
  | none => s.answer Machine.reqForceStage refusedMode
  | some p =>
    if (p.stage? stage.toNat).isNone then s.answer Machine.reqForceStage (refusedField 0)
    else
      ((s.answer Machine.reqForceStage (okBody [])).onSc fun c => { c with forced := some stage.toNat }).finish

/-- A VALID slot becomes the pending plan, or clears it where it is the current plan's own (R62, R64). -/
def State.selectPlan (s : State) (slot : Nat) : State :=
  (s.onSc fun c => { c with pending := if c.current = some slot then none else some slot }).takeIfAtOnce

/-- Whether a slot holds a VALID plan. -/
def State.slotValid (s : State) (slot : Nat) : Bool := ((tget? s.sc.slots slot).bind Slot.validPlan?).isSome

/-- PLAN_SELECT (R62). -/
def State.reqPlanSelect (s : State) (slot : Byte) : State :=
  if !slotOk slot then s.answer Machine.reqPlanSelect (refusedField 0)
  else if !s.slotValid slot.toNat then s.answer Machine.reqPlanSelect refusedEmpty
  else ((s.answer Machine.reqPlanSelect (okBody [])).selectPlan slot.toNat).finish

/-- Δ of a SYNC: the difference modulo C, brought into (−C/2, C/2] (R60). -/
def syncDelta (cycle clock hostTime : Nat) : Int :=
  let e := ((hostTime : Int) - clock) % cycle
  if cycle < 2 * e then e - cycle else e

/-- A SYNC addressed to the module (R60). -/
def State.syncAddressed (s : State) (hostTime : BitVec 16) : State :=
  match s.running? .fixed with
  | none => s.answer Machine.reqSync refusedMode
  | some p =>
    if p.cycle ≤ hostTime.toNat then s.answer Machine.reqSync (refusedField 0)
    else
      (s.answer Machine.reqSync (okBody [])).onSc fun c => { c with delta := syncDelta p.cycle c.clock hostTime.toNat }

/-- A SYNC sent as a broadcast: taken under the same conditions and otherwise ignored, and never replied (R60). -/
def State.syncBroadcast (s : State) (hostTime : BitVec 16) : State :=
  match s.running? .fixed with
  | none => s
  | some p =>
    if p.cycle ≤ hostTime.toNat then s
    else s.onSc fun c => { c with delta := syncDelta p.cycle c.clock hostTime.toNat }

/-! ### Learning and cable tests -/

/-- Learning started from a count of 0 (R98). -/
def CircuitRun.startLearning (r : CircuitRun) : CircuitRun := { r with learning := true, learnCount := 0, learnSum := 0 }

/-- Learning ended with its sum and count discarded (R101). -/
def CircuitRun.cancelLearning (r : CircuitRun) : CircuitRun := { r with learning := false, learnCount := 0, learnSum := 0 }

/-- Every circuit of a set changed. -/
def Proving.updSet (p : Proving) (circuits : CircuitSet) (f : CircuitRun → CircuitRun) : Proving :=
  { p with circuits := tmap p.circuits fun c r => if inSet circuits c then f r else r }

/-- LEARN (R98). -/
def State.reqLearn (s : State) (circuits : CircuitSet) : State :=
  s.checkFields Machine.reqLearn (s.learnChecks circuits) fun s =>
    (s.answer Machine.reqLearn (okBody [])).onPu fun p => p.updSet circuits CircuitRun.startLearning

/-- LEARN_CANCEL (R101). -/
def State.reqLearnCancel (s : State) (circuits : CircuitSet) : State :=
  s.checkFields Machine.reqLearnCancel (s.learnChecks circuits) fun s =>
    (s.answer Machine.reqLearnCancel (okBody [])).onPu fun p => p.updSet circuits CircuitRun.cancelLearning

/-- CABLE_TEST LEAK: the cable at the front of the meter's list (R112). -/
def State.reqLeakTest (s : State) (cable : Byte) : State :=
  s.checkFields Machine.reqCableTest (s.leakTestChecks cable) fun s =>
    (s.answer Machine.reqCableTest (okBody [])).onCsu fun u => { u with leakList := toFront cable.toNat u.leakList }

/-- CABLE_TEST CROSS: the circuit at the front of the injector's list (R120). -/
def State.reqCrossTest (s : State) (circuit : Byte) : State :=
  s.checkFields Machine.reqCableTest (s.crossTestChecks circuit) fun s =>
    (s.answer Machine.reqCableTest (okBody [])).onCsu fun u => { u with crossList := toFront circuit.toNat u.crossList }

/-! ### RECORD_CONTROL -/

/-- Every open capture closed without being counted (R163). -/
def Recording.closeCaptures (r : Recording) : Recording :=
  { r with groups := tmap r.groups fun _ v => { v with capture := none } }

/-- The recording-active switch cleared: captures closed uncounted, detectors unarmed (R163). -/
def Recording.clearSwitch (r : Recording) : Recording :=
  if r.active then { r.closeCaptures with active := false, dets := tmap r.dets fun _ v => { v with armed := false } } else r

/-- The switch order: LEAVE 0, SET 1, CLEAR 2 (R163, R165). -/
def Recording.switchOrder (r : Recording) (order : Byte) : Recording :=
  if order = 1#8 then { r with active := true } else if order = 2#8 then r.clearSwitch else r

/-- The configured enable and format of the groups named and the configured enable of the detectors named (R165). -/
def Recording.configure (r : Recording) (groups : GroupSet) (enable format : Byte) (detectors : GroupSet)
    (detEnable : Byte) : Recording :=
  { r with
    groups := tmap r.groups fun g v =>
      if inSet groups g then { v with cfgEnable := optionSet enable, cfgExtended := optionSet format } else v
    dets := tmap r.dets fun d v => if inSet detectors d then { v with cfgEnable := optionSet detEnable } else v }

/-- RECORD_CONTROL (R165). -/
def State.reqRecordControl (s : State) (order : Byte) (groups : GroupSet) (enable format : Byte)
    (detectors : GroupSet) (detEnable : Byte) : State :=
  s.checkFields Machine.reqRecordControl (s.recordControlChecks order groups enable format detectors detEnable) fun s =>
    (s.answer Machine.reqRecordControl (okBody [])).onRu fun r =>
      (r.configure groups enable format detectors detEnable).switchOrder order

/-! ### The meanings -/

/-- LATCH_CLEAR. -/
def execLatchClear (kind number code : Byte) (s : State) : Out := .next (s.handed fun s => s.reqLatchClear kind number code)
/-- DEMAND. -/
def execDemand (groups : GroupSet) (s : State) : Out := .next (s.handed fun s => s.reqDemand groups)
/-- HOLD. -/
def execHold (duration : BitVec 16) (s : State) : Out := .next (s.handed fun s => s.reqHold duration)
/-- RELEASE. -/
def execRelease (s : State) : Out := .next (s.handed State.reqRelease)
/-- FORCE_STAGE. -/
def execForceStage (stage : Byte) (s : State) : Out := .next (s.handed fun s => s.reqForceStage stage)
/-- PLAN_SELECT. -/
def execPlanSelect (slot : Byte) (s : State) : Out := .next (s.handed fun s => s.reqPlanSelect slot)
/-- SYNC, addressed or broadcast. -/
def execSync (broadcast : Bool) (hostTime : BitVec 16) (s : State) : Out :=
  .next (if broadcast then s.handedBroadcast fun s => s.syncBroadcast hostTime else s.handed fun s => s.syncAddressed hostTime)
/-- LEARN. -/
def execLearn (circuits : CircuitSet) (s : State) : Out := .next (s.handed fun s => s.reqLearn circuits)
/-- LEARN_CANCEL. -/
def execLearnCancel (circuits : CircuitSet) (s : State) : Out := .next (s.handed fun s => s.reqLearnCancel circuits)
/-- CABLE_TEST_LEAK. -/
def execCableTestLeak (cable : Byte) (s : State) : Out := .next (s.handed fun s => s.reqLeakTest cable)
/-- CABLE_TEST_CROSS. -/
def execCableTestCross (circuit : Byte) (s : State) : Out := .next (s.handed fun s => s.reqCrossTest circuit)
/-- RECORD_CONTROL. -/
def execRecordControl (order : Byte) (groups : GroupSet) (enable format : Byte) (detectors : GroupSet) (detEnable : Byte)
    (s : State) : Out :=
  .next (s.handed fun s => s.reqRecordControl order groups enable format detectors detEnable)

end Sys2Proof.Machine
end

