-- ==== Sys2Proof/Machine/ModeCmds.lean ====
section
/-! DEFINITION. The Mode Controller's commands: MODE_REQUEST in its three values, auto-start, and the passages from
START_FLASH to START_RED, to RUN and from CLEARING to FLASH (R138 to R142). -/

namespace Sys2Proof.Machine

/-! ### The requests -/

/-- MODE_REQUEST DARK: every mode becomes DARK; in DARK the start request is cleared and the contactor ordered open
(R142). -/
def State.reqModeDark (s : State) : State :=
  let s := s.answer Machine.reqModeRequest (okBody [])
  let s := s.enterMode .dark
  let s := s.onFru fun f => { f with startRequest := false, autoAwaited := false }
  (s.onSpc Supply.orderOpen).finish

/-- The mode a MODE_REQUEST FLASH takes a mode to, none where it is refused (R142). -/
def Mode.onFlashRequest : Mode → Option Mode
  | .dark => none
  | .startFlash => some .flash
  | .startRed => some .clearing
  | .run => some .clearing
  | .clearing => some .clearing
  | .flash => some .flash
  | .supplyWait => none

/-- MODE_REQUEST FLASH (R142). -/
def State.reqModeFlash (s : State) : State :=
  match s.fru.mode.onFlashRequest with
  | none => s.answer Machine.reqModeRequest refusedMode
  | some m =>
    let s := (s.answer Machine.reqModeRequest (okBody [])).onFru fun f => { f with autoAwaited := false }
    (s.enterMode m).finish

/-- The entries of effective severity FLASH or above that are not live are deleted (R142). -/
def State.dropCleared (s : State) : State :=
  (s.onFru fun f => { f with table := tkeep f.table fun _ e => e.live || !e.sev.ge .flash }).recomputeLockout

/-- A RESTART taken: the latches that no longer stand are deleted; in DARK the start request becomes yes and the contactor
is ordered closed, in FLASH the mode becomes START_RED (R139, R142). -/
def State.takeRestart (s : State) : State :=
  let s := s.dropCleared
  let s := s.onFru fun f => { f with autoAwaited := false }
  match s.fru.mode with
  | .dark => ((s.onFru fun f => { f with startRequest := true }).pursueStart).finish
  | _ => (s.enterMode .startRed).finish

/-- Whether RESTART is of a mode that takes it (R142). -/
def Mode.takesRestart : Mode → Bool
  | .dark | .flash => true
  | .startFlash | .startRed | .run | .clearing | .supplyWait => false

/-- MODE_REQUEST RESTART (R142). -/
def State.reqModeRestart (s : State) : State :=
  if !s.fru.mode.takesRestart then s.answer Machine.reqModeRequest refusedMode
  else if s.liveAtLeast .flash then s.answer Machine.reqModeRequest refusedFault
  else if s.writing imageDefinition then s.answer Machine.reqModeRequest refusedBusy
  else if !s.planReady then s.answer Machine.reqModeRequest refusedEmpty
  else (s.answer Machine.reqModeRequest (okBody [])).takeRestart

/-! ### The passages -/

/-- Whether auto-start is taken at this instant (R138). -/
def State.autoStartDue (s : State) : Bool :=
  decide (s.fru.mode = .dark) && s.fru.autoAwaited && s.planReady && !s.liveAtLeast .flash && !s.writing imageDefinition

/-- Whether START_FLASH has run its time (R139). -/
def State.startFlashOver (s : State) : Bool :=
  decide (s.fru.mode = .startFlash) && match s.dt.live.junction with
    | some j => decide (j.startFlashTime ≤ s.fru.modeTimer)
    | none => false

/-- Whether a class is a confirmed on-class (R80). -/
def LampClass.isOn : LampClass → Bool
  | .proven | .partly | .out | .over => true
  | .unproven | .darkOk | .offCurrent => false

/-- Whether a red circuit is proved: its channel is ON with a confirmed on-class (R94, log 18). -/
def State.redProved (s : State) (c : Nat) : Bool :=
  match tget? s.pu.circuits c with
  | some r => r.channelOn && r.confirmed.isOn
  | none => false

/-- Whether every red circuit is proved. -/
def State.redsProved (s : State) : Bool :=
  s.dt.live.circuits.all fun e => decide (e.2.role ≠ .red) || s.redProved e.1

/-- Whether START_RED becomes RUN at this instant (R137, R139). -/
def State.enterRunDue (s : State) : Bool :=
  decide (s.fru.mode = .startRed) && s.dt.valid && s.redsProved && s.planReady
    && decide (s.spc.contactor = .closed) && !s.liveAtLeast .flash
    && match s.dt.live.junction with
      | some j => decide (j.startRedTime ≤ s.fru.modeTimer)
      | none => false

/-- Whether the all-red of CLEARING has run clear_red_time (R140). -/
def State.allRedOver (s : State) : Bool :=
  decide (s.fru.mode = .clearing) && match s.dt.live.junction, s.fru.allRed with
    | some j, some t => decide (j.clearRedTime ≤ t)
    | _, _ => false

/-! ### The meanings -/

/-- MODE_REQUEST_DARK. -/
def execModeRequestDark (s : State) : Out := .next (s.handed State.reqModeDark)
/-- MODE_REQUEST_FLASH. -/
def execModeRequestFlash (s : State) : Out := .next (s.handed State.reqModeFlash)
/-- MODE_REQUEST_RESTART. -/
def execModeRequestRestart (s : State) : Out := .next (s.handed State.reqModeRestart)
/-- AUTO_START: the effect of a taken RESTART in DARK, where its conditions hold together (R138). -/
def execAutoStart (s : State) : Out := .next (s.when s.autoStartDue State.takeRestart)
/-- START_FLASH_TIMEOUT: START_FLASH becomes START_RED (R139). -/
def execStartFlashTimeout (s : State) : Out := .next (s.when s.startFlashOver fun s => (s.enterMode .startRed).finish)
/-- ENTER_RUN: START_RED becomes RUN (R139). -/
def execEnterRun (s : State) : Out := .next (s.when s.enterRunDue fun s => (s.enterMode .run).finish)
/-- ALL_RED_EXPIRED: CLEARING becomes FLASH (R140). -/
def execAllRedExpired (s : State) : Out := .next (s.when s.allRedOver fun s => (s.enterMode .flash).finish)

end Sys2Proof.Machine
end

