-- ==== Sys2Proof/Machine/Install.lean ====
section
/-! DEFINITION. The effects of an installed definition on every block (R15 to R17, R21, R49, R66, R81, R104, R107, R108, R111,
R113, R121, R123, R156 to R159, R164, R185), shared by DEF_COMMIT and the store load, and fresh records of each kind, shared
with the soft reset. -/

namespace Sys2Proof.Machine

/-! ### Fresh records -/

/-- A group's GS record at rest, its commanded green end stamped now (R21). -/
def GroupRun.fresh (rest : Aspect) (now : Nat) : GroupRun :=
  { aspect := rest, timer := 0, greenStart := none, greenEnd := now, minElapsed := false, lockHeld := false,
    inTarget := false, halves := 0 }

/-- A detector's DU record at its start; the raw level is the latest sample (R66, R78). -/
def DetRun.fresh (raw : Bool) : DetRun :=
  { level := false, raw := raw, run := 0, presence := 0, gap := none, absence := 0, activations := 0, occupied := 0,
    classCount := 0 }

/-- Settling at a switch to a state: 4 half-cycles for an INCANDESCENT circuit on, 2 for an LED, 2 for off (R83). -/
def settleTime (lt : LampType) (on : Bool) : Nat :=
  if on then (match lt with | .incandescent => 4 | .led => 2) else 2

/-- A circuit's PU record re-initialised, with the reference, recorded data and episodes it is to hold (R81). -/
def CircuitRun.fresh (rec : CircuitRec) (on : Bool) (reference : Nat) (recorded : Option LampData) (episodes : Nat)
    (showing : Bool) : CircuitRun :=
  { channelOn := on, flashing := false, settle := settleTime rec.lampType on, firstOn := true, filter := 0, latestS := 0,
    latestC := 0, lit := 0, candidate := none, counter := 0, confirmed := .unproven, lastOn := none, lastOff := none,
    reference := reference, recorded := recorded, learning := false, learnCount := 0, learnSum := 0,
    episodes := episodes, showing := showing }

/-- A dark record at 0 (R104). -/
def Dark.fresh : Dark := ⟨0, 0, 0, false⟩
/-- A loop-tested circuit's record with its timers 0 and no result (R107). -/
def LoopRun.fresh : LoopRun := ⟨none, 0, 0⟩
/-- A level with no streak and not raised (R111). -/
def LevelRun.fresh : LevelRun := ⟨0, 0, false⟩
/-- A leakage record with its crossings (R111). -/
def LeakRun.fresh (crossings : Nat) : LeakRun := ⟨none, LevelRun.fresh, LevelRun.fresh, crossings⟩
/-- A shown-green record at its start (R123). -/
def ShownRun.fresh : ShownRun := ⟨false, .closed, 0, 0, false, none, 0⟩

/-- The state of a channel. -/
def State.channelIsOn (s : State) (ch : Nat) : Bool := match tget? s.ob.channels ch with | some c => c.state | none => false

/-! ### The fault table under a new definition (R17) -/

/-- Whether the source of a key is still defined; the junction and channels always are. -/
def DefSet.definesSource (d : DefSet) (key : Nat) : Bool :=
  match keySourceCode key with
  | 1 => thas d.groups (keyNumber key)
  | 2 => thas d.circuits (keyNumber key)
  | 3 => thas d.cables (keyNumber key)
  | 4 => thas d.detectors (keyNumber key)
  | _ => true

/-- The effective severity of an entry's row under a definition (R17, log 20). -/
def DefSet.rerate (d : DefSet) (key : Nat) (e : FaultEntry) : Severity :=
  match kindOfCode? (keyKindCode key) with
  | some k => d.effective k e.row
  | none => .ignore

/-- Whether an entry survives a commit: its source is defined and its row is not re-rated to IGNORE (R17). -/
def DefSet.keepsEntry (d : DefSet) (key : Nat) (e : FaultEntry) : Bool :=
  d.definesSource key && decide (d.rerate key e ≠ .ignore)

/-- The notices of the keys removed from the queue (R168). -/
def Recording.dropNotices (r : Recording) (keys : List Nat) : Recording := keys.foldl Recording.noticeRemoved r

/-- The live state of the UNMAPPED_CURRENT entries of channels now mapped is lost (R17, log 14). -/
def State.clearMapped (s : State) : State :=
  forEach ((List.range Config.channels).map (· + 1))
    (fun ch s => s.when (s.dt.live.mapped? ch).isSome fun s => s.clear (.channel ch) .unmappedCurrent) s

/-- The fault table under the live definition (R17). -/
def State.rerateTable (s : State) : State :=
  let d := s.dt.live
  let gone := tkeys (tkeep s.fru.table fun k e => !d.keepsEntry k e)
  let s := s.onFru fun f =>
    { f with table := tmap (tkeep f.table fun k e => d.keepsEntry k e) fun k e => { e with sev := d.rerate k e } }
  let s := s.onRu fun r => r.dropNotices gone
  s.clearMapped.recomputeLockout

/-! ### The blocks' parts -/

/-- The reference a circuit takes from a LEARNED entry: kept where the lamp data are the circuit's own (R16, R102). -/
def RefEntry.takenBy (e : RefEntry) (rec : CircuitRec) : Bool := decide (e.lamp = rec.lampData)

/-- Every circuit's PU record under the live definition, with the references of a table of LEARNED entries (R16, R81).
Until the next close a kept circuit's showing stands and a new one's is no (log 37). -/
def State.freshCircuits (s : State) (refs : Table RefEntry) : Table CircuitRun :=
  tmap s.dt.live.circuits fun c rec =>
    let on := s.channelIsOn rec.channel
    let showing := match tget? s.pu.circuits c with | some r => r.showing | none => false
    match tget? refs c with
    | some e =>
      if e.takenBy rec then CircuitRun.fresh rec on e.reference (some e.lamp) 0 showing
      else CircuitRun.fresh rec on rec.nominal none 0 showing
    | none => CircuitRun.fresh rec on rec.nominal none 0 showing

/-- Whether some LEARNED entry is not taken by the live definition (R16, R102, R177). -/
def DefSet.losesReference (d : DefSet) (refs : Table RefEntry) : Bool :=
  refs.any fun e =>
    match tget? d.circuits e.1 with
    | some rec => !e.2.takenBy rec
    | none => true

/-- The slots re-validated, and a current or pending plan that is no longer VALID dropped (R15, R49). -/
def State.revalidateSlots (s : State) : State :=
  let d := s.dt.live
  s.onSc fun c =>
    let slots := tmap c.slots fun _ x => revalidate d x
    let keep := fun (o : Option Nat) => o.filter fun k => ((tget? slots k).bind Slot.validPlan?).isSome
    { c with slots := slots, current := keep c.current, pending := keep c.pending }

/-- The extension state cleared, one record per live group (R16). -/
def State.freshExt (s : State) : State :=
  s.onSc fun c => { c with ext := tmap s.dt.live.groups fun _ _ => ⟨0, false⟩ }

/-- The group records, at rest and stamped now, less the lockout set (R21). At the load that ends a hard reset the stamp is
the instant of the load, as a commit's (R1, R16, log 32). -/
def State.freshGroups (s : State) : State :=
  s.onGs fun q =>
    { q with
      groups := tmap s.dt.live.groups fun g rec =>
        { GroupRun.fresh rec.kind.rest s.uptime with lockHeld := s.isLocked g }
      requested := none
      reportOwed := false }

/-- The detector records at their start (R66). -/
def State.freshDetectors (s : State) : State :=
  s.onDu fun u =>
    { u with dets := tmap s.dt.live.detectors fun d _ =>
        DetRun.fresh (match tget? u.dets d with | some r => r.raw | none => false) }

/-- Whether both circuits of a pair are defined and name one cable (R121). -/
def DefSet.keepsPair (d : DefSet) (key : Nat) : Bool :=
  match tget? d.circuits (key / 256), tget? d.circuits (key % 256) with
  | some a, some b => a.cable == b.cable
  | _, _ => false

/-- The sources that have a crossed pair. -/
def crossedSources (pairs : Table PairRun) : List Nat := (tkeys (tkeep pairs fun _ r => r.crossed)).map (· / 256)

/-- The CSU under the live definition (R16, R104, R107, R108, R111, R113, R121); at the load that ends a hard reset the dark
records start at the instant of the load (log 45). -/
def State.freshCables (s : State) : State :=
  let d := s.dt.live
  let old := s.csu.pairs
  let kept := tmap (tkeep old fun k _ => d.keepsPair k) fun _ r => { r with positive := 0, negative := 0 }
  let s := s.onCsu fun u =>
    { u with
      dark := tmap d.circuits fun _ _ => Dark.fresh
      loops := tmap (tkeep d.circuits fun _ r => r.loopTest) fun _ _ => LoopRun.fresh
      measuring := none
      dwelt := 0
      residual := 0
      leakCursor := 1
      leakList := u.leakList.filter fun c => thas d.cables c
      leaks := tmap d.cables fun _ _ => LeakRun.fresh 0
      test := none
      crossCursor := 1
      crossList := u.crossList.filter fun c => match tget? d.circuits c with | some r => r.crossTest | none => false
      pairs := kept }
  let gone := (crossedSources old).filter fun c => thas d.circuits c && !(crossedSources kept).contains c
  forEach gone (fun c s => s.clear (.circuit c) .cableCross) s

/-- The CM under the live definition, with its clear of CONFLICT (R123). -/
def State.freshMonitor (s : State) : State :=
  (s.onCm fun _ =>
    { groups := tmap s.dt.live.groups fun _ _ => ShownRun.fresh, pairs := tmap s.dt.live.conflicts fun _ _ => 0 }).clear
    .junction .conflict

/-- A group's service record at a commit, by whether it was and is defined (R157, R158); the formats of a group no longer
defined become BASIC (log 42). -/
def GroupService.atCommit (was isNow : Bool) (v : GroupService) : GroupService :=
  match was, isNow with
  | true, true => v
  | false, true => { GroupService.blank with cfgEnable := true, enable := true }
  | _, false => GroupService.blank

/-- A detector's service record at a commit, by whether it was and is defined (R164); a detector no longer defined is
unarmed (log 43). -/
def DetService.atCommit (was isNow : Bool) (v : DetService) : DetService :=
  match was, isNow with
  | true, true => v
  | false, true => { DetService.blank with cfgEnable := true }
  | _, false => DetService.blank

/-- The service records under a new definition; every wait latch becomes none (R157, R158, R159, R164). -/
def Recording.commit (r : Recording) (old new : DefSet) : Recording :=
  { r with
    groups := tmap r.groups fun g v =>
      { v.atCommit (thas old.groups g) (thas new.groups g) with wait := none }
    dets := tmap r.dets fun d v =>
      { v.atCommit (thas old.detectors d) (thas new.detectors d) with kind := (tget? new.detectors d).map DetectorRec.kind } }

/-- A channel's unmapped watch at a commit: a channel that stays unmapped keeps its raised flag (R156). -/
def Channel.atCommit (wasMapped isMapped : Bool) (c : Channel) : Channel :=
  { c with above := 0, below := 0, raised := !wasMapped && !isMapped && c.raised }

/-- The watches of the channels under a new map (R156). -/
def Banks.commit (b : Banks) (old new : DefSet) : Banks :=
  { b with channels := tmap b.channels fun ch c => c.atCommit (old.mapped? ch).isSome (new.mapped? ch).isSome }

/-- The demand of the substituted detectors asserted again (R74). -/
def State.substitutedDemand (s : State) : State :=
  forEach (tkeys s.du.dets) (fun d s => s.when (s.substituted d) fun s => s.detectorDemand d) s

/-- The installation of a definition with its identity: every block takes its part; the writes are queued by the caller
(R15 to R17). -/
def State.install (s : State) (d : DefSet) (identity : BitVec 32) : State :=
  let old := s.dt.live
  let refs := s.referenceTable
  let s := s.onDt fun t => { t with live := d, valid := true, identity := identity }
  let s := s.clear .junction .definitionInvalid
  let s := s.revalidateSlots
  let s := s.onFru fun f => { f with autoAwaited := false }
  let s := s.rerateTable
  let s := s.onPu fun _ => { circuits := s.freshCircuits refs, kept := [] }
  let s := s.freshCables.freshDetectors.freshMonitor
  let s := s.onRu fun r => r.commit old d
  let s := s.onOb fun b => b.commit old d
  let s := s.freshGroups.freshExt.restartDemand
  s.substitutedDemand.refreshPresence.startSilence

end Sys2Proof.Machine
end

