-- ==== Sys2Proof/Machine/DefinitionCmds.lean ====
section
/-! DEFINITION. The definition requests: DEF_CLEAR, DEF_RECORD, DEF_COMMIT and SUBSTITUTE (R2, R3, R12 to R20). -/

namespace Sys2Proof.Machine

/-- DEF_CLEAR (R2). -/
def State.reqDefClear (s : State) : State :=
  (s.answer Machine.reqDefClear (okBody [])).onDt fun t => { t with staging := DefSet.empty }

/-- DEF_RECORD (R2, R3). -/
def State.reqDefRecord (s : State) (body : List Byte) : State :=
  match parseRecord body with
  | .error e => s.answer Machine.reqDefRecord e.refusal
  | .ok r => (s.answer Machine.reqDefRecord (okBody [])).onDt fun t => { t with staging := t.staging.insert r }

/-- Whether the junction mode takes a commit or a substitution (R12, R19). -/
def Mode.takesCommit : Mode → Bool
  | .dark | .flash => true
  | .startFlash | .startRed | .run | .clearing | .supplyWait => false

/-- The staged definition installed, its image queued and, where a learned reference is lost, the reference table's
(R15, R16). -/
def State.commitStaging (s : State) (identity : BitVec 32) : State :=
  let loses := s.dt.staging.losesReference s.referenceTable
  let s := (s.install s.dt.staging identity).queueWrite imageDefinition
  (s.when loses fun s => s.queueWrite imageReferences).finish

/-- DEF_COMMIT (R12 to R17). -/
def State.reqDefCommit (s : State) (identity : BitVec 32) : State :=
  let computed := s.dt.staging.computeIdentity
  if !s.fru.mode.takesCommit then s.answer Machine.reqDefCommit refusedMode
  else if s.writing imageDefinition then s.answer Machine.reqDefCommit refusedBusy
  else if computed ≠ identity then s.answer Machine.reqDefCommit (refusedIdentity computed)
  else
    match validate s.dt.staging with
    | some v => s.answer Machine.reqDefCommit (refusedInvalid v)
    | none =>
      (s.answer Machine.reqDefCommit (okOrClamped (clampsSeverity s.dt.staging) (le 4 computed.toNat))).commitStaging
        computed

/-! ### SUBSTITUTE -/

/-- Whether a channel is a target for a substitution: one of 1..104 and unmapped (R19). -/
def State.channelFree (s : State) (ch : Nat) : Bool :=
  decide (1 ≤ ch) && decide (ch ≤ Config.channels) && (s.dt.live.mapped? ch).isNone

/-- The circuit's live record takes the channel, and the live identity follows (R20). -/
def Definitions.moveCircuit (t : Definitions) (c ch : Nat) : Definitions :=
  let live := { t.live with circuits := tupd t.live.circuits c fun r => { r with channel := ch } }
  { t with live := live, identity := live.computeIdentity }

/-- The unmapped watches of the old and the target channel start or end at 0 (R156). -/
def Banks.resetWatch (b : Banks) (ch : Nat) : Banks :=
  { b with channels := tupd b.channels ch fun c => { c with above := 0, below := 0, raised := false } }

/-- The substituted circuit's PU record: re-initialised, with its episodes and reference kept (R81). -/
def CircuitRun.substituted (rec : CircuitRec) (on : Bool) (r : CircuitRun) : CircuitRun :=
  CircuitRun.fresh rec on r.reference r.recorded r.episodes r.showing

/-- The streaks of every pair that includes a circuit cleared (R121). -/
def CableUnit.clearStreaks (u : CableUnit) (c : Nat) : CableUnit :=
  { u with pairs := tmap u.pairs fun k r =>
      if k / 256 = c ∨ k % 256 = c then { r with positive := 0, negative := 0 } else r }

/-- The CSU at a substitution (R20, R104, R107, R117, R121). -/
def CableUnit.substitute (u : CableUnit) (c : Nat) : CableUnit :=
  let u := (u.interrupt (· == c)).clearStreaks c
  { u with dark := tupd u.dark c fun _ => Dark.fresh, loops := tupd u.loops c fun _ => LoopRun.fresh }

/-- A SUBSTITUTE taken (R20). -/
def State.takeSubstitute (s : State) (c : Nat) (rec : CircuitRec) (ch : Nat) : State :=
  let on := s.channelIsOn ch
  let s := s.onDt fun t => t.moveCircuit c ch
  let s := s.answer Machine.reqSubstitute (okBody (le 4 s.dt.identity.toNat))
  let s := s.clear (.channel ch) .unmappedCurrent
  let s := s.onOb fun b => (b.resetWatch rec.channel).resetWatch ch
  let s := s.onPu fun p => { p with circuits := tupd p.circuits c (CircuitRun.substituted rec on) }
  let s := (((s.clear (.circuit c) .lampPartial).clear (.circuit c) .lampOut).clear (.circuit c) .lampOver).clear
    (.circuit c) .offCurrent
  ((s.onCsu fun u => u.substitute c).queueWrite imageDefinition).finish

/-- SUBSTITUTE (R19, R20). -/
def State.reqSubstitute (s : State) (circuit channel : Byte) : State :=
  if !s.fru.mode.takesCommit then s.answer Machine.reqSubstitute refusedMode
  else if s.writing imageDefinition then s.answer Machine.reqSubstitute refusedBusy
  else
    match s.circuitRec? circuit.toNat with
    | none => s.answer Machine.reqSubstitute (refusedField 0)
    | some rec =>
      if !s.channelFree channel.toNat then s.answer Machine.reqSubstitute (refusedField 1)
      else s.takeSubstitute circuit.toNat rec channel.toNat

/-! ### The meanings -/

/-- SUBSTITUTE. -/
def execSubstitute (circuit channel : Byte) (s : State) : Out :=
  .next (s.handed fun s => s.reqSubstitute circuit channel)
/-- DEF_CLEAR. -/
def execDefClear (s : State) : Out := .next (s.handed State.reqDefClear)
/-- DEF_RECORD. -/
def execDefRecord (body : List Byte) (s : State) : Out := .next (s.handed fun s => s.reqDefRecord body)
/-- DEF_COMMIT. -/
def execDefCommit (identity : BitVec 32) (s : State) : Out := .next (s.handed fun s => s.reqDefCommit identity)

end Sys2Proof.Machine
end

