-- ==== Sys2Proof/Machine/PlanCmds.lean ====
section
/-! DEFINITION. The plan requests: PLAN_RECORD, PLAN_COMMIT and PLAN_ERASE (R44 to R48). -/

namespace Sys2Proof.Machine

/-- PLAN_RECORD (R44). -/
def State.reqPlanRecord (s : State) (body : List Byte) : State :=
  match parsePlan body with
  | .error e => s.answer Machine.reqPlanRecord e.refusal
  | .ok p => (s.answer Machine.reqPlanRecord (okBody [])).onSc fun c => { c with staging := some p }

/-- Whether a slot is the current or the pending plan's (R47, R48). -/
def State.slotInForce (s : State) (slot : Nat) : Bool := s.sc.current == some slot || s.sc.pending == some slot

/-- A slot filled, and its plan image asked for (R47, R48). -/
def State.putSlot (s : State) (slot : Nat) (x : Slot) : State :=
  (s.onSc fun c => { c with slots := tupd c.slots slot fun _ => x }).queueWrite (imagePlan slot)

/-- Whether a plan is VALID against the live definition; under an INVALID one it fails check 1 at stage 1 (R46). -/
def State.judgePlan (s : State) (p : Plan) : Option (Nat × Nat) :=
  if s.dt.valid then validatePlan s.dt.live p else some (1, 1)

/-- A PLAN_COMMIT with a slot that may be written and a plan in staging (R47). -/
def State.commitPlan (s : State) (slot : Nat) (p : Plan) (identity : BitVec 32) : State :=
  let computed := p.computeIdentity
  if computed ≠ identity then s.answer Machine.reqPlanCommit (refusedIdentity computed)
  else
    match s.judgePlan p with
    | some (check, stage) => s.answer Machine.reqPlanCommit (refusedInvalid ⟨check, 0, stage, 0⟩)
    | none =>
      (s.answer Machine.reqPlanCommit (okOrClamped (clampsPlan s.dt.live p) (le 4 computed.toNat))).putSlot slot
        (.valid p computed)

/-- PLAN_COMMIT (R47). -/
def State.reqPlanCommit (s : State) (slot : Byte) (identity : BitVec 32) : State :=
  if !slotOk slot then s.answer Machine.reqPlanCommit (refusedField 0)
  else
    match s.sc.staging with
    | none => s.answer Machine.reqPlanCommit refusedEmpty
    | some p =>
      if s.slotInForce slot.toNat then s.answer Machine.reqPlanCommit refusedMode
      else if s.writing (imagePlan slot.toNat) then s.answer Machine.reqPlanCommit refusedBusy
      else s.commitPlan slot.toNat p identity

/-- PLAN_ERASE (R48). -/
def State.reqPlanErase (s : State) (slot : Byte) : State :=
  if !slotOk slot then s.answer Machine.reqPlanErase (refusedField 0)
  else if s.slotInForce slot.toNat then s.answer Machine.reqPlanErase refusedMode
  else if s.writing (imagePlan slot.toNat) then s.answer Machine.reqPlanErase refusedBusy
  else (s.answer Machine.reqPlanErase (okBody [])).putSlot slot.toNat .empty

/-! ### The meanings -/

/-- PLAN_RECORD. -/
def execPlanRecord (body : List Byte) (s : State) : Out := .next (s.handed fun s => s.reqPlanRecord body)
/-- PLAN_COMMIT. -/
def execPlanCommit (slot : Byte) (identity : BitVec 32) (s : State) : Out :=
  .next (s.handed fun s => s.reqPlanCommit slot identity)
/-- PLAN_ERASE. -/
def execPlanErase (slot : Byte) (s : State) : Out := .next (s.handed fun s => s.reqPlanErase slot)

end Sys2Proof.Machine
end

