-- ==== Sys2Proof/Machine/Resets.lean ====
section
/-! DEFINITION. HARD_RESET, POWER_UP_LOAD, SOFT_RESET and SOFT_RESET_ACTION (R143, R176, R177 and the reset columns of the
other chapters). -/

namespace Sys2Proof.Machine

/-! ### HARD_RESET -/

/-- What a write abandoned by a hard reset may have left in its area (R176). -/
def Area.abandon (a : Area) (f : Flight) : Area := { a with torn := a.torn ++ [f.copy] }

/-- The store at a hard reset: the write in flight is abandoned and the pending set dropped; the areas keep what they hold
(R171, R172, R176). The stored definition identity is none from here until a load finds the image intact or a write verifies,
also where the load finds the area DAMAGED; R178 gives it no value at a hard reset (log 54, DESIGN CHOICE). -/
def Store.atHardReset (c : Store) : Store :=
  let c := match c.flight with
    | some f => c.updArea f.image fun a => a.abandon f
    | none => c
  { areas := tmap c.areas fun _ a => { a with mark := .none }, flight := none, storedIdentity := none }

/-! ### POWER_UP_LOAD -/

/-- The content last written whole, where it passes the CRC-32 stored with it (R177). -/
def Area.whole? (a : Area) : Option ImageContent := a.content.filter fun x => x.crc == a.crc

/-- What the load finds in an area: nothing that passes its CRC where the area fails; the content last written whole; or,
after abandoned or mismatched writes, the free value's choice among damage, the earlier image and the new ones, each with
its own CRC-32 (R176, log 8). -/
def Area.found (a : Area) (failing : Bool) (pick : Nat) : Option ImageContent :=
  if failing then none
  else if a.torn.isEmpty then a.whole?
  else
    match pick with
    | 0 => none
    | 1 => a.whole?
    | k + 2 => a.torn[k % a.torn.length]?

/-- An area after the load: INTACT with its content, or DAMAGED (R177). -/
def Area.loaded (found : Option ImageContent) : Area :=
  match found with
  | some x => ⟨.intact, true, .none, some x, x.crc, []⟩
  | none => ⟨.damaged, false, .none, none, 0, []⟩

/-- The areas as the load finds them; the i-th area takes the i-th of the free values from the counter on. -/
def Store.load (c : Store) (failing : List Nat) (free : Nat) : Store :=
  { c with areas := tmap c.areas fun n a => Area.loaded (a.found (failing.contains n) (Config.tornArea (free + n))) }

/-- The content found in an image's area. -/
def State.loadedContent (s : State) (image : Nat) : Option ImageContent :=
  (tget? s.stc.areas image).bind Area.content

/-- The live definition INVALID: it holds no records, and every block those of an empty definition (R1). The watch of every
channel starts afresh with it, as at a commit: runs 0, raised flags kept; R156 names only resets and commits, and R1 gives a
load the effects of a commit for an intact image only (log 55, DESIGN CHOICE). -/
def State.noDefinition (s : State) : State := (s.install DefSet.empty 0).onDt fun d => { d with valid := false }

/-- The definition image handed to the DT: installed with the effects of a commit; or the live definition INVALID with
DEFINITION_INVALID raised (R1, R177). -/
def State.loadDefinition (s : State) : State :=
  match s.loadedContent imageDefinition with
  | some (.definition d id) => (s.install d id).onStc fun c => { c with storedIdentity := some id }
  | _ => s.noDefinition.raise .junction .definitionInvalid

/-- The reference table handed to the PU: its entries to the circuits they fit, or kept by number while no definition is
live; without a table every circuit is NOMINAL, REFERENCES_LOST is raised and the table is to be written (R102, R177). -/
def State.loadReferences (s : State) : State :=
  match s.loadedContent imageReferences with
  | some (.references t) =>
    if s.dt.valid then
      (s.onPu fun p => { p with circuits := s.freshCircuits t }).when (s.dt.live.losesReference t) fun s =>
        s.queueWrite imageReferences
    else s.onPu fun p => { p with kept := t }
  | _ =>
    ((s.onPu fun _ => { circuits := s.freshCircuits [], kept := [] }).raise .junction .referencesLost).queueWrite
      imageReferences

/-- A loaded plan image as a slot: EMPTY, or its content validated, with the identity recomputed (R45, R49, R177). -/
def State.loadedSlot (s : State) (slot : Nat) : Slot :=
  match s.loadedContent (imagePlan slot) with
  | some (.plan (some (p, _))) =>
    if (s.judgePlan p).isNone then .valid p p.computeIdentity else .invalid p p.computeIdentity
  | _ => .empty

/-- The fallback slot of the live definition, where it is VALID (R50). -/
def State.validFallback? (s : State) : Option Nat :=
  (s.dt.live.junction.map JunctionRec.fallback).filter fun k => s.slotValid k

/-- The plan images handed to the SC, and the fallback slot made current if it is VALID, with no plan pending (R49, R50,
R177). -/
def State.loadPlans (s : State) : State :=
  let s := s.onSc fun c => { c with slots := tmap c.slots fun k _ => s.loadedSlot k }
  s.onSc fun c => { c with current := s.validFallback?, pending := none }

/-- The detectors of the loaded definition are enabled and armed for the first interval (R164). -/
def Recording.armLoaded (r : Recording) (d : DefSet) : Recording :=
  { r with dets := tmap r.dets fun n v =>
      if thas d.detectors n then { v with cfgEnable := true, enable := true, armed := r.active } else v }

/-- Auto-start judged at a reset (R138). -/
def State.judgeAutoStart (s : State) : State :=
  s.onFru fun f =>
    { f with autoAwaited := s.dt.valid && match s.dt.live.junction with | some j => j.autoStart | none => false }

/-- The store load: the areas are read and their contents handed on, and auto-start judged (R138, R177). -/
def State.powerUp (s : State) (failing : List Nat) : State :=
  let s := { s with stc := s.stc.load failing s.free, free := s.free + 11, loading := false }
  let s := s.loadDefinition.loadReferences.loadPlans
  (((s.onRu fun r => r.armLoaded s.dt.live).judgeAutoStart).startSilence).finish

/-! ### SOFT_RESET -/

/-- SOFT_RESET: replied OK, and owed once the reply's last byte has been sent (R143, R181). -/
def State.reqSoftReset (s : State) : State :=
  (s.answer Machine.reqSoftReset (okBody [])).onLi fun l => { l with softReset := .replying }

/-- The LI at a soft reset: the receiver in HUNT, the held read discarded (R180, R183). -/
def Link.softReset_ (l : Link) : Link :=
  { l with rxPhase := .hunt, rxBytes := [], held := none, softReset := .none }

/-- The RU's queue, batch, captures and waits at a soft reset (R159, R163, R167, R169). -/
def Recording.softReset (r : Recording) : Recording :=
  let r := { r.setQueue [] false with lastBatch := [], lastOverflow := false }
  { r with groups := tmap r.groups fun _ v => { v with capture := none, wait := none } }

/-- The GS records at a soft reset: at rest, stamped with the instant of the reset (R21). -/
def State.gsSoftReset (s : State) : State :=
  s.onGs fun q =>
    { q with
      groups := tmap q.groups fun g _ => GroupRun.fresh (s.kindOf g).rest s.uptime
      requested := none
      reportOwed := false }

/-- A detector's record at a soft reset: started anew, but for its three interval fields (R66). -/
def DetRun.softReset (r : DetRun) : DetRun :=
  { DetRun.fresh r.raw with activations := r.activations, occupied := r.occupied, classCount := r.classCount }

/-- A circuit's PU record at a soft reset: the reference and the episode counter are kept (R81). -/
def State.circuitSoftReset (s : State) (c : Nat) (r : CircuitRun) : CircuitRun :=
  match s.circuitRec? c with
  | some rec => CircuitRun.fresh rec r.channelOn r.reference r.recorded r.episodes r.showing
  | none => r

/-- The CSU at a soft reset (R104, R107, R108, R111, R113, R121). -/
def CableUnit.softReset (u : CableUnit) : CableUnit :=
  { dark := tmap u.dark fun _ _ => Dark.fresh
    loops := tmap u.loops fun _ _ => LoopRun.fresh
    measuring := none
    dwelt := 0
    residual := 0
    leakCursor := 1
    leakList := []
    leaks := tmap u.leaks fun _ r => LeakRun.fresh r.crossings
    lfsr := u.lfsr
    test := none
    crossCursor := 1
    crossList := []
    pairs := [] }

/-- The CM at a soft reset (R123). -/
def Monitor.softReset (m : Monitor) : Monitor :=
  { groups := tmap m.groups fun _ _ => ShownRun.fresh, pairs := tmap m.pairs fun _ _ => 0 }

/-- The SPC at a soft reset: the band and loss runs and the watch runs are 0; the contactor, its timer and run and the
frequency stand (R146 to R149). -/
def Supply.softReset (p : Supply) : Supply :=
  { p with bandRun := 0, normalRun := 0, bandRaised := false, lostRun := 0, returnRun := 0, lossStanding := false,
           liveRun := 0, deadRun := 0 }

/-- The watches of the channels at a soft reset (R156). -/
def Banks.softReset (b : Banks) : Banks :=
  { b with channels := tmap b.channels fun _ c => { c with above := 0, below := 0, raised := false } }

/-- The FRU at a soft reset: an empty table and lockout set, no start request, timers at rest (R129, R136, R137). -/
def Response.softReset (f : Response) : Response :=
  { f with table := [], lockout := [], startRequest := false, modeTimer := 0, allRed := none }

/-- The blocks' records at a soft reset, apart from the mode, the recalls and the timer. -/
def State.softRecords (s : State) : State :=
  let s := s.gsSoftReset
  let s := s.onDu fun u => { u with dets := tmap u.dets fun _ r => r.softReset }
  let s := s.onPu fun p => { p with circuits := tmap p.circuits fun c r => s.circuitSoftReset c r }
  let s := s.onCsu CableUnit.softReset
  let s := s.onCm Monitor.softReset
  let s := s.onSpc Supply.softReset
  let s := s.onOb Banks.softReset
  s.onSc fun c => { c.clearRun with ext := tmap c.ext fun _ _ => ⟨0, false⟩ }

/-- The soft reset (R143): the table, the lockout set and the queue are emptied, the mode becomes DARK with the contactor
ordered open, every record starts as its chapter gives, recalls are reapplied, and the faults that stand are
raised again as it completes: DEFINITION_INVALID while the live definition is INVALID (R1, R177, log 40), then STORE_FAULT
where an image is troubled (R175). -/
def State.softReset (s : State) : State :=
  let s := (s.onLi Link.softReset_).onRu Recording.softReset
  let s := s.onFru Response.softReset
  let s := (s.enterMode .dark).onSpc Supply.orderOpen
  let s := s.softRecords
  let s := s.onRu fun r => { r with groups := tmap r.groups fun _ v => { v with wait := none } }
  let s := s.restartDemand.refreshPresence
  let s := s.when (!s.dt.valid) fun s => s.raise .junction .definitionInvalid
  let s := s.when s.stc.troubled fun s => s.raise .junction .storeFault
  (s.judgeAutoStart.startSilence).finish

/-! ### The meanings -/

/-- HARD_RESET: the RESET input, with the straps as they stand (R176, R179). The store keeps what its areas hold, and the
commands still waiting keep their places. -/
def execHardReset (rateFast : Bool) (address : BitVec 5) (s : State) : Out :=
  .next (State.atReset rateFast address s.stc.atHardReset s.free s.pending)
/-- POWER_UP_LOAD: the end of the store load that a hard reset begins; `failing` are the images whose areas fail (R177). -/
def execPowerUpLoad (failing : List Nat) (s : State) : Out := .next (s.when s.loading fun s => s.powerUp failing)
/-- SOFT_RESET. -/
def execSoftReset (s : State) : Out := .next (s.handed State.reqSoftReset)
/-- SOFT_RESET_ACTION: the soft reset acts once its reply has been sent (R143, R181). -/
def execSoftResetAction (s : State) : Out := .next (s.when (decide (s.li.softReset = .owed)) State.softReset)

end Sys2Proof.Machine
end

