-- ==== Sys2Proof/Machine/HalfCycle.lean ====
section
/-! DEFINITION. The close of a half-cycle, by a zero crossing or timed, and what every block does with its measurements (R82
to R92, R97, R99, R104, R110, R116, R117, R123 to R128, R144 to R156). The events a close may lead to have rows of their own
and are judged on the state it leaves (log 2); the blocks take their parts in the order below (log 21). -/

namespace Sys2Proof.Machine

/-! ### The clock (R144, R146) -/

/-- The nominal period in µs: 10 ms, or 8.33 ms once 60 Hz is detected (R144, log 9). -/
def State.period (s : State) : Nat := if s.spc.frequency = some 60 then 8330 else 10000

/-- Whether a crossing is accepted: at least half a period after the previous close (R144); before the first close after a
hard reset there is no previous one, and the half period is asked of the elapsed time all the same (log 51, DESIGN CHOICE). -/
def State.crossingAccepted (s : State) (elapsed : Nat) : Bool := decide (s.period ≤ 2 * elapsed)

/-- Whether a timed close is due: 1.25 periods after the previous close, or one period while timed closes are being made
(R144, log 10). -/
def State.timedDue (s : State) (elapsed : Nat) : Bool :=
  if s.ob.timedRunning then decide (s.period ≤ elapsed) else decide (5 * s.period ≤ 4 * elapsed)

/-- The count of crossing closes towards a frequency: the first four consecutive ones while CLOSED (R146). -/
def Supply.countClose (p : Supply) (crossing : Bool) (elapsed : Nat) : Supply :=
  if p.frequency.isSome || decide (4 ≤ p.freqCount) then p
  else if crossing && decide (p.contactor = .closed) then
    { p with freqCount := p.freqCount + 1, freqTime := p.freqTime + elapsed }
  else { p with freqCount := 0, freqTime := 0 }

/-- The clock at a close. -/
def State.clockClose (s : State) (crossing : Bool) (elapsed : Nat) : State :=
  let s := s.onOb fun b =>
    { b with sinceCrossing := if crossing then 0 else b.sinceCrossing + elapsed, timedRunning := !crossing }
  s.onSpc fun p => p.countClose crossing elapsed

/-! ### The supply (R145 to R151) -/

/-- The supply condition of a half-cycle (R145). -/
def supplyCondition (vn : Option Nat) (volts sinceCrossing : Nat) : SupplyCond :=
  let late := decide (30000 ≤ sinceCrossing)
  match vn with
  | none => if late || decide (volts < 50) then .lost else .normal
  | some vn =>
    if late || decide (2 * volts < vn) then .lost
    else if 113 * vn < 100 * volts then .high
    else if 85 * vn ≤ 100 * volts then .normal
    else .low

/-- The band runs (R147). -/
def Supply.bandClose (p : Supply) (k : SupplyCond) : Supply :=
  match k with
  | .low | .high => { p with bandRun := satInc 240 p.bandRun, normalRun := 0 }
  | .normal => { p with bandRun := 0, normalRun := satInc 240 p.normalRun }
  | .lost => { p with normalRun := 0 }

/-- The loss and return runs, while CLOSED (R148). -/
def Supply.lossClose (p : Supply) (k : SupplyCond) : Supply :=
  { p with
    lostRun := if k = .lost then satInc 5 p.lostRun else 0
    returnRun := if p.lossStanding then (if k = .normal then satInc 240 p.returnRun else 0) else p.returnRun }

/-- The longest time a close or an opening may take to prove, in ms (R149). -/
def provingLimit : Nat := 300

/-- The proving run in CLOSING, until the timer runs out (R150). -/
def Supply.closingClose (p : Supply) (k : SupplyCond) : Supply :=
  if p.provingTimer < provingLimit then { p with provingRun := if k = .normal then satInc 4 p.provingRun else 0 } else p

/-- The first LOST close in OPENING, until the timer runs out (R151, log 17). -/
def Supply.openingClose (p : Supply) (k : SupplyCond) : Supply :=
  if p.provingTimer < provingLimit ∧ k = .lost then { p with lostSeen := true } else p

/-- The live-bus and dead-bus runs in OPEN (R150, R151). -/
def Supply.openClose (p : Supply) (k : SupplyCond) : Supply :=
  if k = .lost then { p with liveRun := 0, deadRun := satInc 36 p.deadRun }
  else { p with liveRun := satInc 36 p.liveRun, deadRun := 0 }

/-- The contactor's own runs at a close. -/
def Supply.contactorClose (p : Supply) (k : SupplyCond) : Supply :=
  match p.contactor with
  | .closed => p.lossClose k
  | .closing => p.closingClose k
  | .opening => p.openingClose k
  | .opened => p.openClose k

/-- The SPC at a close. -/
def State.supplyClose (s : State) (m : Measures) : State :=
  let volts := min m.volts 400
  let k := supplyCondition s.dt.live.vn volts s.ob.sinceCrossing
  s.onSpc fun p => ({ p with volts := volts, condition := k }.bandClose k).contactorClose k

/-! ### Lamp proving (R82 to R92, R97, R99) -/

/-- The current a channel delivers, held at 4095 mA (R153). -/
def currentOn (m : Measures) (ch : Nat) : Nat := min (m.currents.getD (ch - 1) 0) 4095

/-- The compensated current c (R87). -/
def compensate (lt : LampType) (s vn volts : Nat) : Nat :=
  match lt with
  | .incandescent => s * vn / volts
  | .led => s * volts / vn

/-- The filter (R88). -/
def CircuitRun.nextFilter (r : CircuitRun) (c : Nat) : Nat :=
  if r.firstOn then 16 * c else r.filter - r.filter / 8 + 2 * c

/-- The lit count: f × L / R rounded half up, limited to L (R90). -/
def litCount (f lamps reference : Nat) : Nat := min ((2 * f * lamps + reference) / (2 * reference)) lamps

/-- The candidate of an on evaluation (R91). -/
def onCandidate (f lit lamps reference : Nat) : LampClass :=
  if 3 * reference < 2 * f then .over
  else if lit = lamps then .proven
  else if 0 < lit then .partly
  else .out

/-- Confirmation (R92): the counter of agreeing evaluations; the change of class has its own row. -/
def CircuitRun.confirm (r : CircuitRun) (k : Nat) (cand : LampClass) : CircuitRun :=
  if r.candidate = some cand then { r with counter := satInc k r.counter }
  else { r with candidate := some cand, counter := 1 }

/-- The evaluations a learning gathers (R100). -/
def learnTarget : Nat := 32

/-- One on evaluation gathered by a learning circuit (R99). -/
def CircuitRun.gather (r : CircuitRun) (c : Nat) : CircuitRun :=
  if r.learning ∧ r.learnCount < learnTarget then { r with learnCount := r.learnCount + 1, learnSum := r.learnSum + c }
  else r

/-- The on evaluation (R87 to R91). -/
def CircuitRun.onEval (r : CircuitRun) (rec : CircuitRec) (k vn volts cur : Nat) : CircuitRun :=
  let c := compensate rec.lampType cur vn volts
  let filter := r.nextFilter c
  let f := (filter + 8) / 16
  let lit := litCount f rec.lamps r.reference
  let cand := onCandidate f lit rec.lamps r.reference
  ({ r with filter := filter, firstOn := false, latestC := c, lit := lit }.confirm k cand).gather c

/-- The off evaluation (R86). -/
def CircuitRun.offEval (r : CircuitRun) (rec : CircuitRec) (k cur : Nat) : CircuitRun :=
  r.confirm k (if rec.offLimitMa < cur then .offCurrent else .darkOk)

/-- A circuit's half-cycle while CLOSED: settling, suspension, and its evaluation (R83 to R92). -/
def CircuitRun.judge (r : CircuitRun) (rec : CircuitRec) (k vn volts : Nat) (cond : SupplyCond) (cur : Nat) : CircuitRun :=
  let r := { r with latestS := cur }
  if 0 < r.settle then { r with settle := r.settle - 1 }
  else if cond ≠ .normal then r
  else if r.channelOn then r.onEval rec k vn volts cur
  else if r.flashing then r
  else r.offEval rec k cur

/-- The PU at a close: showing always, the rest only while CLOSED (R82, R97). -/
def State.provingClose (s : State) (m : Measures) : State :=
  let k := s.dt.live.k
  let vn := s.dt.live.vn.getD 1
  s.onPu fun p =>
    { p with circuits := tmap p.circuits fun c r =>
      match s.circuitRec? c with
      | none => r
      | some rec =>
        let cur := currentOn m rec.channel
        let r := if s.spc.contactor = .closed then r.judge rec k vn s.spc.volts s.spc.condition cur else r
        { r with showing := decide (rec.offLimitMa < cur) } }

/-! ### The unmapped channels (R156) -/

/-- The current above which an unmapped channel is found to pass current, in mA (R156). -/
def unmappedLimit : Nat := 15

/-- The runs of an unmapped channel. -/
def Channel.watch (c : Channel) (k cur : Nat) : Channel :=
  if unmappedLimit < cur then { c with above := satInc k c.above, below := 0 }
  else { c with above := 0, below := satInc k c.below }

/-- The unmapped-channel watch at a close. -/
def State.watchClose (s : State) (m : Measures) : State :=
  let k := s.dt.live.k
  s.onOb fun b =>
    { b with channels := tmap b.channels fun ch c =>
        if (s.dt.live.mapped? ch).isNone then c.watch k (currentOn m ch) else c }

/-! ### The Conflict Monitor (R123 to R127) -/

/-- The bridge: 6 ds in closes (R123). -/
def State.bridge (s : State) : Nat := 6 * s.closesPerDs

/-- Whether a group's GREEN circuit is showing (R97, R124). -/
def State.greenShows (s : State) (g : Nat) : Bool :=
  match s.dt.live.circuitIn? g .green with
  | some c => (match tget? s.pu.circuits c with | some r => r.showing | none => false)
  | none => false

/-- Whether an episode stands closed: CLOSED, or a GAP that has reached the bridge (R124). -/
def ShownRun.ended? (r : ShownRun) (bridge : Nat) : Bool :=
  decide (r.episode = .closed) || (decide (r.episode = .gap) && decide (bridge ≤ r.gapLen))

/-- A group that enters showing: run length 1, and first run yes after CLOSED (R124). Its gap length then stands at 0, a value
R124 does not give (log 56, DESIGN CHOICE). -/
def ShownRun.enterShowing (r : ShownRun) (first : Bool) : ShownRun :=
  { r with shown := true, episode := .showing, run := 1, gapLen := 0, first := first }

/-- The row of R124 for a group; the first part of the pair says whether it enters showing. -/
def ShownRun.evaluate (r : ShownRun) (bridge : Nat) (showing : Bool) : Bool × ShownRun :=
  if r.ended? bridge then
    if showing then (true, r.enterShowing true) else (false, { r with shown := false })
  else
    match r.episode, showing with
    | .showing, true => (false, { r with shown := true, run := satInc 65535 r.run })
    | .showing, false =>
      (false, { r with shown := false, episode := .gap, gapLen := 1, first := false,
                       ended := if r.first || decide (bridge < r.run) then some 0 else r.ended })
    | _, true => (true, r.enterShowing false)
    | _, false => (false, { r with shown := false, gapLen := satInc bridge r.gapLen })

/-- The flash-green count (R127). -/
def ShownRun.countFlash (r : ShownRun) (m : Mode) : ShownRun :=
  { r with flashCount := if m.regime = .flashPattern then (if r.shown then satInc 2 r.flashCount else 0) else 0 }

/-- The age of a shown green end, one close on (R124). -/
def ShownRun.older (r : ShownRun) : ShownRun := { r with ended := r.ended.map (satInc 65535) }

/-- Whether a group that enters showing comes too soon after a conflicting group's shown green end (R126). -/
def State.intergreenShort (s : State) (j : Nat) : Bool :=
  (s.dt.live.rivals j).any fun p =>
    match tget? s.cm.groups p.1 with
    | some r =>
      !r.shown && match r.ended with
        | some age => decide (age + 2 < p.2 * s.closesPerDs)
        | none => false
    | none => false

/-- Whether any pair stands confirmed. -/
def Monitor.anyConfirmed (m : Monitor) : Bool := m.pairs.any fun e => e.2 == 2

/-- Whether any group is shown green. -/
def Monitor.anyShown (m : Monitor) : Bool := m.groups.any fun e => e.2.shown

/-- The groups that enter showing at this close. -/
def State.entering (s : State) : List Nat :=
  tkeys (tkeep s.cm.groups fun g r => (r.evaluate s.bridge (s.greenShows g)).1)

/-- The CM's records as this close evaluates them (R124, R125, R127). -/
def State.evaluateShown (s : State) : State :=
  let s := s.onCm fun m =>
    { m with groups := tmap m.groups fun g r => ((r.evaluate s.bridge (s.greenShows g)).2).countFlash s.fru.mode }
  let shows := fun g => match tget? s.cm.groups g with | some r => r.shown | none => false
  s.onCm fun m =>
    { m with pairs := tmap m.pairs fun k n => if shows (k / 256) && shows (k % 256) then satInc 2 n else 0 }

/-- The CM at a close: ages, and in every contactor state but OPEN the evaluation, with the INTERGREEN_SHORT events and
the clears of CONFLICT and GREEN_IN_FLASH (R124 to R127); several events are reported by rising group (log 48). -/
def State.monitorClose (s : State) : State :=
  let s := s.onCm fun m => { m with groups := tmap m.groups fun _ r => r.older }
  if s.spc.contactor = .opened then s
  else
    let was := s.cm.anyConfirmed
    let entering := s.entering
    let checked := decide (s.fru.mode = .run ∨ s.fru.mode = .clearing)
    let s := s.evaluateShown
    let short := if checked then entering.filter s.intergreenShort else []
    let s := forEach short (fun j s => s.event (.group j) .intergreenShort) s
    let s := s.when (was && !s.cm.anyConfirmed) fun s => s.clear .junction .conflict
    s.when (!s.cm.anyShown) fun s => s.clear .junction .greenInFlash

/-! ### Cable supervision (R104, R110, R116) -/

/-- The half-cycles of a leakage measurement (R110). -/
def leakDwell : Nat := 50

/-- The Leakage Meter at a close: a measurement gathers the residual, or is abandoned to the front of the list (R110). -/
def CableUnit.leakClose (u : CableUnit) (fit : Bool) (residual : Nat) : CableUnit :=
  match u.measuring with
  | none => u
  | some cable =>
    if leakDwell ≤ u.dwelt then u
    else if fit then { u with dwelt := u.dwelt + 1, residual := u.residual + min residual 4095 }
    else { u with measuring := none, dwelt := 0, residual := 0, leakList := toFront cable u.leakList }

/-- The half-cycles of a pattern test (R116). -/
def patternLength : Nat := 64

/-- The bit of the half-cycle in progress, none once all 64 have run (R116). -/
def PatternTest.bit? (t : PatternTest) : Option Bool := t.draw[t.index]?

/-- Whether a channel drives a pattern pulse in the half-cycle in progress: it is the source's, the bit is 1, and it is not
ON (R116, R155). -/
def State.drivesPulse (s : State) (ch : Nat) : Bool :=
  match s.csu.test with
  | none => false
  | some t =>
    (match s.circuitRec? t.source with
      | some r => r.channel == ch
      | none => false) && t.bit? == some true && !s.channelIsOn ch

/-- The pattern test at a close: each sensor not excluded is matched against the bit of the half-cycle (R116). -/
def PatternTest.advance (t : PatternTest) (sensed : Nat → Bool) : PatternTest :=
  match t.bit? with
  | none => t
  | some b =>
    { t with
      index := t.index + 1
      sensors := t.sensors.map fun x =>
        if !x.excluded && (sensed x.circuit == b) then { x with count := x.count + 1 } else x }

/-- Whether a pulse arrived on a circuit's core (R155). -/
def State.sensedOn (s : State) (m : Measures) (c : Nat) : Bool :=
  match s.circuitRec? c with
  | some r => m.sensed.contains r.channel
  | none => false

/-- Whether a circuit's channel is ON. -/
def State.circuitIsOn (s : State) (c : Nat) : Bool :=
  match s.circuitRec? c with
  | some r => s.channelIsOn r.channel
  | none => false

/-- The CSU at a close. -/
def State.cableClose (s : State) (m : Measures) : State :=
  let fit := decide (s.spc.contactor = .closed) && decide (s.spc.condition = .normal)
  s.onCsu fun u =>
    let u := u.leakClose fit m.residual
    { u with
      test := u.test.map fun t => t.advance (s.sensedOn m)
      dark := tmap u.dark fun c r => if s.circuitIsOn c then r else { r with age := satInc 255 r.age } }

/-! ### Switching (R41, R83, R104, R117, R152) -/

/-- The state a channel takes at a close: its command, held OFF while unmapped or while CONTACTOR_WELD is latched
(R152). -/
def State.channelTarget (s : State) (ch : Nat) (c : Channel) : Bool :=
  c.command && (s.dt.live.mapped? ch).isSome && !s.weldLatched

/-- A circuit's PU record at a switch of its channel, in every contactor state (R83, log 44). -/
def CircuitRun.switched (r : CircuitRun) (lt : LampType) (on : Bool) : CircuitRun :=
  { r with channelOn := on, settle := settleTime lt on, firstOn := on || r.firstOn }

/-- The circuit of a channel that has switched. A loop application already due at the instant of a switch-on stays due, to
be answered INDETERMINATE (R154); a switch restarts the settling in every contactor state (R83, log 44). -/
def State.circuitSwitched (s : State) (c : Nat) (on : Bool) : State :=
  match s.circuitRec? c with
  | none => s
  | some rec =>
    let s := s.onPu fun p => { p with circuits := tupd p.circuits c fun r => r.switched rec.lampType on }
    let s := s.onCsu fun u => { u with dark := tupd u.dark c fun r => { Dark.fresh with due := on && r.due } }
    s.when on fun s => s.onCsu fun u => u.interrupt (· == c)

/-- The channels that switch at this close, each with its new state. -/
def State.switching (s : State) : List (Nat × Bool) :=
  s.ob.channels.filterMap fun e =>
    let on := s.channelTarget e.1 e.2
    if on = e.2.state then none else some (e.1, on)

/-- Every channel whose command differs from its state switches, and the switches are reported (R152). -/
def State.switchChannels (s : State) : State :=
  let moved := s.switching
  let s := s.onOb fun b =>
    { b with channels := tmap b.channels fun ch c => { c with state := s.channelTarget ch c } }
  moved.foldl (fun s e =>
    match s.dt.live.mapped? e.1 with
    | some c => s.circuitSwitched c e.2
    | none => s) s

/-! ### The meanings -/

/-- A close of the half-cycle that ran for `elapsed` µs, with its measurements. -/
def State.takeClose (s : State) (crossing : Bool) (elapsed : Nat) (m : Measures) : State :=
  let s := (s.clockClose crossing elapsed).supplyClose m
  let s := ((s.provingClose m).watchClose m).monitorClose
  ((s.cableClose m).switchChannels).finish

/-- ZERO_CROSSING_CLOSE: an accepted crossing; an earlier one is noise (R144). -/
def execZeroCrossingClose (elapsed : Nat) (m : Measures) (s : State) : Out :=
  .next (s.when (s.crossingAccepted elapsed) fun s => s.takeClose true elapsed m)
/-- TIMED_CLOSE: the clock closes a half-cycle by itself (R144). -/
def execTimedClose (elapsed : Nat) (m : Measures) (s : State) : Out :=
  .next (s.when (s.timedDue elapsed) fun s => s.takeClose false elapsed m)

end Sys2Proof.Machine
end

