-- ==== Sys2Proof/Machine/MonitorCmds.lean ====
section
/-! DEFINITION. The Conflict Monitor's and the Proving Unit's events: SHOWN_EPISODE_CLOSED, CONFLICT_RAISE,
GREEN_IN_FLASH_RAISE, CLASS_CONFIRMED and LEARNING_COMPLETE (R92 to R96, R100, R124 to R127). -/

namespace Sys2Proof.Machine

/-! ### The Conflict Monitor -/

/-- An episode whose gap has reached the bridge becomes CLOSED (R124). Its run length and gap length then stand at 0 and its first
run mark at no, as the gap left it: R124 gives them no value (log 56, DESIGN CHOICE). -/
def ShownRun.close (bridge : Nat) (r : ShownRun) : ShownRun :=
  if r.episode = .gap ∧ bridge ≤ r.gapLen then { r with episode := .closed, gapLen := 0, run := 0 } else r

/-- SHOWN_EPISODE_CLOSED. -/
def execShownEpisodeClosed (group : Nat) (s : State) : Out :=
  .next (s.onCm fun m => { m with groups := tupd m.groups group (ShownRun.close s.bridge) })

/-- CONFLICT_RAISE: a pair stands confirmed (R125). -/
def execConflictRaise (s : State) : Out :=
  .next (s.when s.cm.anyConfirmed fun s => (s.raise .junction .conflict).finish)

/-- Whether a group has been shown green at two evaluations in a row in START_FLASH or FLASH (R127). -/
def Monitor.greenInFlash (m : Monitor) : Bool := m.groups.any fun e => e.2.flashCount == 2

/-- GREEN_IN_FLASH_RAISE (R127). -/
def execGreenInFlashRaise (s : State) : Out :=
  .next (s.when s.cm.greenInFlash fun s => (s.raise .junction .greenInFlash).finish)

/-! ### The Proving Unit -/

/-- The class a circuit confirms: its candidate, once K evaluations have agreed on one that differs from the confirmed
class (R92). -/
def CircuitRun.confirms? (r : CircuitRun) (k : Nat) : Option LampClass :=
  match r.candidate with
  | some c => if k ≤ r.counter ∧ c ≠ r.confirmed then some c else none
  | none => none

/-- Whether a class is a failing on-class (R95). -/
def LampClass.failing : LampClass → Bool
  | .partly | .out | .over => true
  | .unproven | .proven | .darkOk | .offCurrent => false

/-- Whether a new confirmed class counts an episode (R95). -/
def CircuitRun.episode (r : CircuitRun) (c : LampClass) : Bool :=
  (c.failing && decide (r.lastOn ≠ some c)) || (decide (c = .offCurrent) && decide (r.lastOff ≠ some .offCurrent))

/-- Whether a class is an off-class (R80). -/
def LampClass.isOff : LampClass → Bool
  | .darkOk | .offCurrent => true
  | .unproven | .proven | .partly | .out | .over => false

/-- The record after a change of confirmed class (R92, R95). -/
def CircuitRun.takeClass (r : CircuitRun) (c : LampClass) : CircuitRun :=
  { r with
    confirmed := c
    episodes := if r.episode c then satInc 255 r.episodes else r.episodes
    lastOn := if c.isOn then some c else r.lastOn
    lastOff := if c.isOff then some c else r.lastOff }

/-- What a change of confirmed class reports to the fault table (R93). -/
def State.reportClass (s : State) (c : Nat) (k : LampClass) : State :=
  let src := Source.circuit c
  match k with
  | .proven => ((s.clear src .lampPartial).clear src .lampOut).clear src .lampOver
  | .partly => (((s.clear src .lampOut).clear src .lampOver)).raiseCircuit c .lampPartial
  | .out => ((s.clear src .lampPartial).clear src .lampOver).raiseCircuit c .lampOut
  | .over => ((s.clear src .lampPartial).clear src .lampOut).raiseCircuit c .lampOver
  | .darkOk => s.clear src .offCurrent
  | .offCurrent => s.raiseCircuit c .offCurrent
  | .unproven => s

/-- The intermittent threshold of the live junction record (R4, R96). -/
def State.episodeThreshold (s : State) : Nat :=
  match s.dt.live.junction with
  | some j => j.intermittentThreshold
  | none => 256

/-- A class confirmed: the record, the reports of R93, and INTERMITTENT where an episode takes the counter to the threshold
(R96). Where one change brings both, the class's report, with the mode change it brings, comes before INTERMITTENT (log 50,
DESIGN CHOICE: the rules order neither before the other). -/
def State.confirmClass (s : State) (c : Nat) (r : CircuitRun) (k : LampClass) : State :=
  let r' := r.takeClass k
  let t := s.episodeThreshold
  let s := (s.onPu fun p => { p with circuits := tput p.circuits c r' }).reportClass c k
  (s.when (decide (r.episodes < t) && decide (t ≤ r'.episodes)) fun s => s.event (.circuit c) .intermittent).finish

/-- CLASS_CONFIRMED. -/
def execClassConfirmed (circuit : Nat) (s : State) : Out :=
  .next (match tget? s.pu.circuits circuit with
    | none => s
    | some r =>
      match r.confirms? s.dt.live.k with
      | none => s
      | some k => s.confirmClass circuit r k)

/-- The candidate reference of a learning: the mean of its 32 values rounded half up (R100). -/
def CircuitRun.learned (r : CircuitRun) : Nat := (r.learnSum + 16) / 32

/-- Whether a candidate reference is accepted: within 50..200 % of nominal and 20..4000 mA (R100). -/
def acceptReference (candidate nominal : Nat) : Bool :=
  decide (nominal ≤ 2 * candidate) && decide (candidate ≤ 2 * nominal) && within 20 4000 candidate

/-- A learned reference accepted (R100, R102). -/
def State.acceptLearning (s : State) (c : Nat) (rec : CircuitRec) (ref : Nat) : State :=
  let s := s.onPu fun p => { p with circuits := tupd p.circuits c fun r =>
    { r.cancelLearning with reference := ref, recorded := some rec.lampData } }
  (s.clear .junction .referencesLost).queueWrite imageReferences

/-- A learned reference rejected (R100). -/
def State.rejectLearning (s : State) (c : Nat) : State :=
  ((s.onPu fun p => { p with circuits := tupd p.circuits c CircuitRun.cancelLearning }).event (.circuit c)
    .learnRejected).finish

/-- LEARNING_COMPLETE: the 32nd evaluation has been gathered (R100). -/
def execLearningComplete (circuit : Nat) (s : State) : Out :=
  .next (match s.circuitRec? circuit, tget? s.pu.circuits circuit with
    | some rec, some r =>
      if r.learning ∧ learnTarget ≤ r.learnCount then
        if acceptReference r.learned rec.nominal then s.acceptLearning circuit rec r.learned else s.rejectLearning circuit
      else s
    | _, _ => s)

end Sys2Proof.Machine
end

