-- ==== Sys2Proof/Machine/SupplyCmds.lean ====
section
/-! DEFINITION. The events of the Supply Controller and of the Output Banks' unmapped-channel watch (R139, R141, R146 to R151,
R156). -/

namespace Sys2Proof.Machine

/-- The least time of four half-cycles at 50 Hz, in µs (R146). -/
def fiftyHertzTime : Nat := 36700

/-- FREQUENCY_DETECTED: four crossing closes have been counted (R146). -/
def execFrequencyDetected (s : State) : Out :=
  .next (s.when (s.spc.frequency.isNone && decide (s.spc.freqCount = 4)) fun s =>
    s.onSpc fun p => { p with frequency := some (if fiftyHertzTime ≤ p.freqTime then 50 else 60) })

/-- SUPPLY_BAND_RAISE: the band run has reached the closes of 1 s (R147). -/
def execSupplyBandRaise (s : State) : Out :=
  .next (s.when (!s.spc.bandRaised && decide (s.closesOf 10 ≤ s.spc.bandRun)) fun s =>
    ((s.onSpc fun p => { p with bandRaised := true }).raise .junction .supplyBand).finish)

/-- SUPPLY_BAND_CLEAR: the normal run has reached the closes of 1 s (R147). -/
def execSupplyBandClear (s : State) : Out :=
  .next (s.when (s.spc.bandRaised && decide (s.closesOf 10 ≤ s.spc.normalRun)) fun s =>
    (s.onSpc fun p => { p with bandRaised := false }).clear .junction .supplyBand)

/-- Whether a supply loss takes a mode to SUPPLY_WAIT (R141). -/
def Mode.losesSupply : Mode → Bool
  | .startFlash | .startRed | .run | .clearing | .flash => true
  | .dark | .supplyWait => false

/-- Whether SUPPLY_LOST is to be raised (R148). -/
def State.lossDue (s : State) : Bool :=
  decide (s.spc.contactor = .closed) && decide (s.spc.lostRun = 5) && !s.spc.lossStanding

/-- The supply loss: SUPPLY_LOST raised, and the mode to SUPPLY_WAIT (R141, R148). The notice of SUPPLY_LOST joins the queue
before the MODE notice of SUPPLY_WAIT; no rule orders the two at one instant (log 53, DESIGN CHOICE). -/
def State.takeLoss (s : State) : State :=
  let s := (s.onSpc fun p => { p with lossStanding := true }).raise .junction .supplyLost
  (s.when s.fru.mode.losesSupply fun s => s.enterMode .supplyWait).finish

/-- SUPPLY_LOST_RAISE. -/
def execSupplyLostRaise (s : State) : Out := .next (s.when s.lossDue State.takeLoss)

/-- Whether the supply has returned: 2 s of NORMAL closes with the loss standing. The closes were counted while CLOSED, and
the return stands where a DARK order has taken the contactor to OPENING at the same instant (R148). -/
def State.returnDue (s : State) : Bool :=
  s.spc.lossStanding && decide (s.closesOf 20 ≤ s.spc.returnRun)

/-- The mode at a start or a supply return, by the live faults (R139, R141). -/
def State.startMode (s : State) : Mode := if s.liveAtLeast .flash then .flash else .startFlash

/-- The supply return: SUPPLY_LOST cleared, and the Mode Controller's judgement (R141, R148). -/
def State.takeReturn (s : State) : State :=
  let s := (s.onSpc fun p => { p with lossStanding := false, lostRun := 0, returnRun := 0 }).clear .junction .supplyLost
  (s.when (decide (s.fru.mode = .supplyWait)) fun s => s.enterMode s.startMode).finish

/-- SUPPLY_RETURN. -/
def execSupplyReturn (s : State) : Out := .next (s.when s.returnDue State.takeReturn)

/-! ### The contactor -/

/-- Every circuit restarts its settling at the entry to CLOSED (R83). -/
def State.settleAll (s : State) : State :=
  s.onPu fun p =>
    { p with
      circuits := tmap p.circuits fun c r =>
        match s.circuitRec? c with
        | some rec => r.switched rec.lampType r.channelOn
        | none => r }

/-- The Mode Controller's judgement when the contactor is reported CLOSED (R139). -/
def State.judgeClosed (s : State) : State :=
  let s := s.onFru fun f => { f with startRequest := false }
  if s.fru.mode ≠ .dark then s
  else if s.liveAtLeast .dark then s.onSpc Supply.orderOpen
  else s.enterMode s.startMode

/-- CONTACTOR_CLOSE_PROVED: four NORMAL closes in CLOSING (R139, R150). -/
def execContactorCloseProved (s : State) : Out :=
  .next (s.when (decide (s.spc.contactor = .closing) && decide (s.spc.provingRun = 4)) fun s =>
    ((s.onSpc fun p => p.setContactor .closed).settleAll.judgeClosed).finish)

/-- CONTACTOR_NO_CLOSE: the timer has run out in CLOSING (R139, R150). -/
def execContactorNoClose (s : State) : Out :=
  .next (s.when (decide (s.spc.contactor = .closing) && decide (provingLimit ≤ s.spc.provingTimer)
      && decide (s.spc.provingRun < 4)) fun s =>
    ((s.enterOpen.raise .junction .contactorNoClose).onFru fun f => { f with startRequest := false }).finish)

/-- DEAD_BUS_PROVED: five LOST closes in OPEN clear CONTACTOR_NO_CLOSE and CONTACTOR_WELD (R150, R151). -/
def execDeadBusProved (s : State) : Out :=
  .next (s.when (decide (s.spc.contactor = .opened) && decide (5 ≤ s.spc.deadRun)) fun s =>
    (s.clear .junction .contactorNoClose).clear .junction .contactorWeld)

/-- CONTACTOR_OPEN_PROVED: a LOST close has come in OPENING (R139, R151). -/
def execContactorOpenProved (s : State) : Out :=
  .next (s.when (decide (s.spc.contactor = .opening) && s.spc.lostSeen) fun s => s.enterOpen.pursueStart.finish)

/-- CONTACTOR_WELD: the timer has run out in OPENING (R151). -/
def execContactorWeld (s : State) : Out :=
  .next (s.when (decide (s.spc.contactor = .opening) && decide (provingLimit ≤ s.spc.provingTimer) && !s.spc.lostSeen)
    fun s => ((s.raise .junction .contactorWeld).enterOpen.pursueStart).finish)

/-- LIVE_BUS_IN_OPEN: the live-bus run has reached the closes of 300 ms (R151). -/
def execLiveBusInOpen (s : State) : Out :=
  .next (s.when (decide (s.spc.contactor = .opened) && decide (s.closesOf 3 ≤ s.spc.liveRun)) fun s =>
    (s.raise .junction .contactorWeld).finish)

/-! ### The unmapped channels -/

/-- Whether an unmapped channel's watch satisfies a test. -/
def State.watchSays (s : State) (ch : Nat) (p : Channel → Bool) : Bool :=
  (s.dt.live.mapped? ch).isNone && match tget? s.ob.channels ch with
    | some c => p c
    | none => false

/-- A channel's raised flag set (R156). -/
def Banks.setRaised (b : Banks) (ch : Nat) (v : Bool) : Banks :=
  { b with channels := tupd b.channels ch fun c => { c with raised := v } }

/-- UNMAPPED_CURRENT_RAISE: the above run has reached K (R156). -/
def execUnmappedCurrentRaise (channel : Nat) (s : State) : Out :=
  .next (s.when (s.watchSays channel fun c => !c.raised && decide (s.dt.live.k ≤ c.above)) fun s =>
    ((s.onOb fun b => b.setRaised channel true).raise (.channel channel) .unmappedCurrent).finish)

/-- UNMAPPED_CURRENT_CLEAR: the below run has reached K (R156). -/
def execUnmappedCurrentClear (channel : Nat) (s : State) : Out :=
  .next (s.when (s.watchSays channel fun c => c.raised && decide (s.dt.live.k ≤ c.below)) fun s =>
    (s.onOb fun b => b.setRaised channel false).clear (.channel channel) .unmappedCurrent)

end Sys2Proof.Machine
end

