-- ==== Sys2Proof/Machine/CableCmds.lean ====
section
/-! DEFINITION. The Cable Supervision Unit's events: loop applications, CABLE_OPEN, the Leakage Meter's measurements and levels,
and the Pattern Injector's tests and pairs (R105, R106, R109 to R119). -/

namespace Sys2Proof.Machine

/-! ### The loop tester -/

/-- Whether a circuit is dark-settled (R104). -/
def State.darkSettled (s : State) (c : Nat) : Bool :=
  match tget? s.csu.dark c with
  | some r => !s.circuitIsOn c && !s.isFlashing c && decide (2 ≤ r.age)
  | none => false

/-- The band of a loop resistance; INDETERMINATE where the bias could not be applied cleanly (R105, R154). -/
def loopResult (ohms : Nat) (clean : Bool) : LoopResult :=
  if !clean then .indeterminate else if ohms < 2000 then .continuous else if 20000 < ohms then .opened else .indeterminate

/-- A result taken by the run timers (R106). -/
def LoopRun.take (r : LoopRun) : LoopResult → LoopRun
  | .opened => ⟨some .opened, satInc 65535 r.openRun, 0⟩
  | .continuous => ⟨some .continuous, 0, satInc 65535 r.clearRun⟩
  | .indeterminate => { r with last := some .indeterminate }

/-- Whether a loop application of a circuit has fallen due and not yet been made (R105). -/
def State.loopDue (s : State) (c : Nat) : Bool := match tget? s.csu.dark c with | some r => r.due | none => false

/-- An application made: its result goes to the run timers (R105, R106). -/
def CableUnit.applyLoop (u : CableUnit) (c : Nat) (res : LoopResult) : CableUnit :=
  { u with
    dark := tupd u.dark c fun r => { r with due := false }
    loops := tupd u.loops c fun r => r.take res }

/-- LOOP_APPLICATION: the application that has fallen due on a circuit, with what its channel finds (R105, R154). -/
def execLoopApplication (circuit ohms : Nat) (clean : Bool) (s : State) : Out :=
  .next (s.when (s.loopDue circuit && (s.darkSettled circuit || s.circuitIsOn circuit)) fun s =>
    s.onCsu fun u => u.applyLoop circuit (loopResult ohms (clean && !s.circuitIsOn circuit)))

/-- Whether a loop-tested circuit's run timers satisfy a test with the live junction record. -/
def State.loopSays (s : State) (c : Nat) (p : JunctionRec → LoopRun → Bool) : Bool :=
  match s.dt.live.junction, tget? s.csu.loops c with
  | some j, some r => p j r
  | _, _ => false

/-- CABLE_OPEN_RAISE: OPEN results have reached the cable raise time (R106). -/
def execCableOpenRaise (circuit : Nat) (s : State) : Out :=
  .next (s.when (s.loopSays circuit fun j r => r.openRun == j.cableRaiseTime) fun s =>
    (s.raiseCircuit circuit .cableOpen).finish)

/-- CABLE_OPEN_CLEAR: CONTINUOUS results have reached the cable clear time (R106). -/
def execCableOpenClear (circuit : Nat) (s : State) : Out :=
  .next (s.when (s.loopSays circuit fun j r => r.clearRun == j.cableClearTime) fun s =>
    s.clear (.circuit circuit) .cableOpen)

/-! ### The Leakage Meter -/

/-- The meter's choice: the front of the priority list, or the first defined cable of the round (R109). -/
def State.chooseCable? (s : State) : Option (Nat × CableUnit) :=
  match s.csu.leakList with
  | c :: rest => some (c, { s.csu with leakList := rest })
  | [] =>
    ((roundFrom s.csu.leakCursor Config.cables).find? fun c => thas s.dt.live.cables c).map fun c =>
      (c, { s.csu with leakCursor := roundNext c Config.cables })

/-- Whether the meter chooses at this close (R109). -/
def State.leakMayStart (s : State) : Bool :=
  s.csu.measuring.isNone && decide (s.spc.contactor = .closed) && decide (s.spc.condition = .normal)

/-- LEAK_MEASUREMENT_START. -/
def execLeakMeasurementStart (s : State) : Out :=
  .next (if s.leakMayStart then
    match s.chooseCable? with
    | some (c, u) => s.onCsu fun _ => { u with measuring := some c, dwelt := 0, residual := 0 }
    | none => s
  else s)

/-- One level's streaks at a result (R111). -/
def LevelRun.take (r : LevelRun) (level result : Nat) : LevelRun :=
  if level ≤ result then { r with above := satInc 3 r.above, below := 0 }
  else if result * 5 < level * 4 then { r with above := 0, below := satInc 5 r.below }
  else { r with above := 0, below := 0 }

/-- A result taken by a cable's leakage record (R111). -/
def LeakRun.take (r : LeakRun) (rec : CableRec) (result : Nat) : LeakRun :=
  { r with last := some result, warn := r.warn.take rec.warnLevel result, fault := r.fault.take rec.faultLevel result }

/-- The result of a measurement: the sum over the dwell, rounded down, at most 500 mA (R110). -/
def leakResult (residual : Nat) : Nat := min (residual / leakDwell) 500

/-- LEAK_MEASUREMENT_COMPLETE (R110, R111). -/
def execLeakMeasurementComplete (s : State) : Out :=
  .next (match s.csu.measuring with
    | none => s
    | some c =>
      if s.csu.dwelt < leakDwell then s
      else s.onCsu fun u =>
        { u with
          measuring := none
          dwelt := 0
          residual := 0
          leaks := tupd u.leaks c fun r =>
            match s.cableRec? c with
            | some rec => r.take rec (leakResult u.residual)
            | none => r })

/-- A level of a leakage record. -/
def LeakRun.level (r : LeakRun) : LeakLevel → LevelRun
  | .warn => r.warn
  | .fault => r.fault

/-- A level's raised flag set. -/
def LeakRun.setRaised (r : LeakRun) (l : LeakLevel) (v : Bool) : LeakRun :=
  match l with
  | .warn => { r with warn := { r.warn with raised := v } }
  | .fault => { r with fault := { r.fault with raised := v } }

/-- A raise of LEAK_FAULT adds to the leak crossings (R111). -/
def LeakRun.countCrossing (r : LeakRun) : LeakLevel → LeakRun
  | .warn => r
  | .fault => { r with crossings := satInc 255 r.crossings }

/-- The fault kind of a level. -/
def leakKind : LeakLevel → FaultKind
  | .warn => .leakWarn
  | .fault => .leakFault

/-- Whether a cable's level satisfies a test. -/
def State.levelSays (s : State) (cable : Nat) (l : LeakLevel) (p : LevelRun → Bool) : Bool :=
  match tget? s.csu.leaks cable with
  | some r => p (r.level l)
  | none => false

/-- LEAK_LEVEL_RAISE: an above streak has reached 3 with the flag no (R111). -/
def execLeakLevelRaise (cable : Nat) (level : LeakLevel) (s : State) : Out :=
  .next (s.when (s.levelSays cable level fun r => r.above == 3 && !r.raised) fun s =>
    ((s.onCsu fun u => { u with leaks := tupd u.leaks cable fun r => (r.setRaised level true).countCrossing level }).raise
      (.cable cable) (leakKind level)).finish)

/-- LEAK_LEVEL_CLEAR: a below streak has reached 5, whatever the flag stood at (R111). -/
def execLeakLevelClear (cable : Nat) (level : LeakLevel) (s : State) : Out :=
  .next (s.when (s.levelSays cable level fun r => r.below == 5) fun s =>
    (s.onCsu fun u => { u with leaks := tupd u.leaks cable fun r => r.setRaised level false }).clear (.cable cable)
      (leakKind level))

/-! ### The Pattern Injector -/

/-- One step of the pattern register: its output bit, and the register after it (R114). Stage 1 is the most significant
bit. -/
def lfsrStep (r : BitVec 16) : Bool × BitVec 16 :=
  let feedback := (r.getLsbD 0 ^^ r.getLsbD 2) ^^ (r.getLsbD 3 ^^ r.getLsbD 5)
  (r.getLsbD 0, (r >>> 1) ||| (if feedback then 0x8000#16 else 0#16))

/-- n output bits in order, and the register after them. -/
def lfsrBits : Nat → BitVec 16 → List Bool × BitVec 16
  | 0, r => ([], r)
  | n + 1, r =>
    let (b, r) := lfsrStep r
    let (bs, r) := lfsrBits n r
    (b :: bs, r)

/-- Whether a draw holds 24..40 ones (R114). -/
def balanced (bits : List Bool) : Bool := within 24 40 (bits.filter id).length

/-- The draw of a test: 64 bits, drawn again while not balanced, up to a number of times (R114, log 31). -/
def drawPattern : Nat → BitVec 16 → List Bool × BitVec 16
  | 0, r => lfsrBits patternLength r
  | n + 1, r =>
    let d := lfsrBits patternLength r
    if balanced d.1 then d else drawPattern n d.2

/-- The number of draws after which the last is taken as it is (log 31). -/
def drawLimit : Nat := 64

/-- The other circuits on a circuit's cable that are dark-settled (R115, R116). -/
def State.sensorsOf (s : State) (c : Nat) : List Nat :=
  (tkeys (s.cableCircuits (s.cableOf c))).filter fun o => o != c && s.darkSettled o

/-- Whether a circuit is eligible as source (R115). -/
def State.eligibleSource (s : State) (c : Nat) : Bool :=
  s.crossTested c && s.darkSettled c && !(s.sensorsOf c).isEmpty

/-- The injector's choice: the first eligible of the priority list, or of the round (R115). -/
def State.chooseSource? (s : State) : Option (Nat × CableUnit) :=
  match s.csu.crossList.find? s.eligibleSource with
  | some c => some (c, { s.csu with crossList := s.csu.crossList.filter (· ≠ c) })
  | none =>
    ((roundFrom s.csu.crossCursor Config.circuits).find? s.eligibleSource).map fun c =>
      (c, { s.csu with crossCursor := roundNext c Config.circuits })

/-- A test started with its draw and its sensors (R116). -/
def CableUnit.startTest (u : CableUnit) (c : Nat) (sensors : List Nat) : CableUnit :=
  let d := drawPattern drawLimit u.lfsr
  { u with
    lfsr := d.2
    test := some ⟨c, sensors.map fun n => ⟨n, 0, false⟩, d.1, 0⟩ }

/-- PATTERN_TEST_START (R114 to R116). -/
def execPatternTestStart (s : State) : Out :=
  .next (if s.csu.test.isSome then s
  else
    match s.chooseSource? with
    | some (c, u) => s.onCsu fun _ => u.startTest c (s.sensorsOf c)
    | none => s)

/-- The matches that make a positive finding (R118). -/
def positiveMatches : Nat := 56

/-- A finding taken by a pair record (R118). -/
def PairRun.take (r : PairRun) (positive : Bool) : PairRun :=
  if positive then { r with positive := satInc 2 r.positive, negative := 0 }
  else { r with positive := 0, negative := satInc 3 r.negative }

/-- A sensor's finding put in the pair records (R118). -/
def putFinding (source : Nat) (pairs : Table PairRun) (x : Sensor) : Table PairRun :=
  if x.excluded then pairs
  else
    let key := pairKey source x.circuit
    let old := (tget? pairs key).getD ⟨0, 0, false⟩
    tput pairs key (old.take (decide (positiveMatches ≤ x.count)))

/-- A test completed: every sensor not excluded gives its finding (R116, R118). -/
def CableUnit.completeTest (u : CableUnit) (t : PatternTest) : CableUnit :=
  { u with test := none, pairs := t.sensors.foldl (putFinding t.source) u.pairs }

/-- PATTERN_TEST_COMPLETE: the 64th half-cycle has closed (R116, R118). -/
def execPatternTestComplete (s : State) : Out :=
  .next (match s.csu.test with
    | some t => if t.index < patternLength then s else s.onCsu fun u => u.completeTest t
    | none => s)

/-- Whether a pair record satisfies a test. -/
def State.pairSays (s : State) (source sensor : Nat) (p : PairRun → Bool) : Bool :=
  match tget? s.csu.pairs (pairKey source sensor) with
  | some r => p r
  | none => false

/-- Whether a circuit has role GREEN. -/
def State.isGreenCircuit (s : State) (c : Nat) : Bool :=
  match s.circuitRec? c with | some r => decide (r.role = .green) | none => false

/-- The row of a CABLE_CROSS raise (R118). -/
def State.crossRow (s : State) (a b : Nat) : RowSel :=
  if s.isGreenCircuit a || s.isGreenCircuit b then .greenInvolved else .other

/-- A pair's crossed value set. -/
def CableUnit.setCrossed (u : CableUnit) (key : Nat) (v : Bool) : CableUnit :=
  { u with pairs := tupd u.pairs key fun r => { r with crossed := v } }

/-- CABLE_CROSS_RAISE: a positive streak has reached 2 with crossed no (R118). -/
def execCableCrossRaise (source sensor : Nat) (s : State) : Out :=
  .next (s.when (s.pairSays source sensor fun r => r.positive == 2 && !r.crossed) fun s =>
    ((s.onCsu fun u => u.setCrossed (pairKey source sensor) true).raiseRow (.circuit source) .cableCross
      (s.crossRow source sensor) sensor).finish)

/-- Whether a source has a crossed pair. -/
def State.hasCrossed (s : State) (source : Nat) : Bool := (crossedSources s.csu.pairs).contains source

/-- CABLE_CROSS_CLEAR: a negative streak has reached 3 with crossed yes; the entry is cleared with the source's last crossed
pair (R118, R119). -/
def execCableCrossClear (source sensor : Nat) (s : State) : Out :=
  .next (s.when (s.pairSays source sensor fun r => r.negative == 3 && r.crossed) fun s =>
    let s := s.onCsu fun u => u.setCrossed (pairKey source sensor) false
    s.when (!s.hasCrossed source) fun s => s.clear (.circuit source) .cableCross)

end Sys2Proof.Machine
end

