-- ==== Sys2Proof/Machine/DetectorCmds.lean ====
section
/-! DEFINITION. The Detector Unit's events: activation, release, the stuck faults and the interval close (R67 to R77, R164). -/

namespace Sys2Proof.Machine

/-- One sample taken by the filter with the detector's sample count: the record, and whether a new level is accepted at
it (R67). -/
def DetRun.sample (r : DetRun) (count : Nat) (x : Bool) : DetRun × Bool :=
  if x = r.level then ({ r with raw := x, run := 0 }, false)
  else if r.run + 1 < count then ({ r with raw := x, run := r.run + 1 }, false)
  else ({ r with raw := x, run := 0, level := x }, true)

/-- Samples taken in turn, up to and including the one that completes a run (R67). -/
def DetRun.samples (count : Nat) : DetRun → List Bool → DetRun × Bool
  | r, [] => (r, false)
  | r, x :: rest =>
    match r.sample count x with
    | (r', true) => (r', true)
    | (r', false) => DetRun.samples count r' rest

/-- The record at an activation (R68, R76). -/
def DetRun.activate (r : DetRun) (rec : DetectorRec) : DetRun :=
  let longGap : Bool := match r.gap with
    | some g => decide (rec.classMode = .gapLonger) && decide (rec.threshold ≤ g)
    | none => false
  { r with
    presence := 0
    absence := 0
    activations := satInc 65535 r.activations
    classCount := if longGap then satInc 65535 r.classCount else r.classCount
    gap := none }

/-- The record at a release (R69, R76). -/
def DetRun.release (r : DetRun) (rec : DetectorRec) : DetRun :=
  let long := decide (rec.classMode = .presenceLonger) && decide (rec.threshold ≤ r.presence)
  { r with gap := some 0, classCount := if long then satInc 65535 r.classCount else r.classCount }

/-- A detector's DU record put. -/
def State.putDet (s : State) (d : Nat) (r : DetRun) : State := s.onDu fun u => { u with dets := tput u.dets d r }

/-- An activation at the blocks that own its parts (R68). -/
def State.activation (s : State) (d : Nat) (rec : DetectorRec) (r : DetRun) : State :=
  let s := (s.putDet d (r.activate rec)).detectorDemand d
  let s := forEach (setList rec.extendSet) (fun g s => s.setExtension g) s
  ((s.clear (.detector d) .detStuckOff).refreshPresence).finish

/-- A release at the blocks that own its parts (R69). -/
def State.releaseDet (s : State) (d : Nat) (rec : DetectorRec) (r : DetRun) : State :=
  (((s.putDet d (r.release rec)).clear (.detector d) .detStuckOn).refreshPresence).finish

/-- DETECTOR_ACTIVATION: contact samples of a detector in ABSENT, 5 ms apart, up to the one at which PRESENT is accepted
(R67, R68). -/
def execDetectorActivation (detector : Nat) (samples : List Bool) (s : State) : Out :=
  .next (match s.detectorRec? detector, tget? s.du.dets detector with
    | some rec, some r =>
      if r.level then s
      else
        match DetRun.samples rec.filterSamples r samples with
        | (r', true) => s.activation detector rec r'
        | (r', false) => s.putDet detector r'
    | _, _ => s)

/-- DETECTOR_RELEASE: contact samples of a detector in PRESENT, up to the one at which ABSENT is accepted (R67, R69). -/
def execDetectorRelease (detector : Nat) (samples : List Bool) (s : State) : Out :=
  .next (match s.detectorRec? detector, tget? s.du.dets detector with
    | some rec, some r =>
      if !r.level then s
      else
        match DetRun.samples rec.filterSamples r samples with
        | (r', true) => s.releaseDet detector rec r'
        | (r', false) => s.putDet detector r'
    | _, _ => s)

/-! ### Stuck detectors -/

/-- Whether a detector's record satisfies a test with its live detector record. -/
def State.detSays (s : State) (d : Nat) (p : DetectorRec → DetRun → Bool) : Bool :=
  match s.detectorRec? d, tget? s.du.dets d with
  | some rec, some r => p rec r
  | _, _ => false

/-- A stuck fault raised, with the demand and presence of the substitution it begins (R72 to R74). -/
def State.raiseStuck (s : State) (d : Nat) (kind : FaultKind) : State :=
  let was := s.substituted d
  let s := s.raise (.detector d) kind
  let s := s.when (!was && s.substituted d) fun s => s.detectorDemand d
  s.refreshPresence.finish

/-- DET_STUCK_ON: the presence timer has passed max presence (R72). -/
def execDetStuckOn (detector : Nat) (s : State) : Out :=
  .next (s.when (s.detSays detector fun rec r =>
      r.level && decide (rec.maxPresenceDs ≠ 0) && decide (rec.maxPresenceDs < r.presence)) fun s =>
    s.raiseStuck detector .detStuckOn)

/-- DET_STUCK_OFF: the absence timer has reached max absence (R73). -/
def execDetStuckOff (detector : Nat) (s : State) : Out :=
  .next (s.when (s.detSays detector fun rec r =>
      decide (rec.maxAbsenceDs ≠ 0) && decide (rec.maxAbsenceDs ≤ r.absence)) fun s =>
    s.raiseStuck detector .detStuckOff)

/-! ### Intervals -/

/-- The length of an interval in ds (R75). -/
def intervalDs : Nat := 600

/-- The occupancy of an interval in percent, rounded half up (R77). -/
def occupancy (occupied : Nat) : Nat := (occupied * 100 + 300) / 600

/-- A closed interval handed to a detector's service record: recorded if the detector is armed (R164). -/
def DetService.record (v : DetService) (r : DetRun) (closeAt : Nat) : DetService :=
  if v.armed then
    { v with
      lastActivations := r.activations
      lastOccupied := r.occupied
      lastOccupancy := occupancy r.occupied
      lastEnd := some closeAt
      activations := v.activations + BitVec.ofNat 32 r.activations
      occupied := v.occupied + BitVec.ofNat 32 r.occupied
      classCount := v.classCount + BitVec.ofNat 32 r.classCount }
  else v

/-- An interval start: the enable in force, and arming (R164). -/
def DetService.arm (v : DetService) (active : Bool) : DetService :=
  { v with enable := v.cfgEnable, armed := v.cfgEnable && active }

/-- The interval fields at 0 (R77). -/
def DetRun.clearInterval (r : DetRun) : DetRun := { r with activations := 0, occupied := 0, classCount := 0 }

/-- The interval closed for every detector: handed to the RU, and the next begun (R77, R164). -/
def State.closeInterval (s : State) : State :=
  let closeAt := s.du.intervalStart + intervalDs
  let s := s.onRu fun r =>
    { r with dets := tmap r.dets fun d v =>
        ((match tget? s.du.dets d with
          | some x => v.record x closeAt
          | none => v).arm r.active) }
  s.onDu fun u => { dets := tmap u.dets fun _ r => r.clearInterval, intervalStart := closeAt }

/-- INTERVAL_CLOSE: uptime has reached the end of the interval in progress (R75, R77). -/
def execIntervalClose (s : State) : Out :=
  .next (s.when (decide (s.du.intervalStart + intervalDs ≤ s.uptime)) State.closeInterval)

end Sys2Proof.Machine
end

