-- ==== Sys2Proof/Machine/GroupCmds.lean ====
section
/-! DEFINITION. The Group Sequencer's events (R23 to R27, R32, R37). -/

namespace Sys2Proof.Machine

/-- Whether a group's GS record satisfies a test with its live group record. -/
def State.groupSays (s : State) (g : Nat) (p : GroupRec → GroupRun → Bool) : Bool :=
  match s.groupRec? g, tget? s.gs.groups g with
  | some rec, some r => p rec r
  | _, _ => false

/-- A group starts: into RED_AMBER where RA is above 0, otherwise into GREEN (R32). -/
def State.startGroup (s : State) (g : Nat) : State :=
  let ra := match s.groupRec? g with
    | some rec => rec.ra
    | none => 0
  if 0 < ra then s.onGs fun q => q.upd g (GroupRun.enter .redAmber) else s.startGreen g

/-- GROUP_START: a group at rest in target is allowed its start (R32). -/
def execGroupStart (group : Nat) (s : State) : Out :=
  .next (s.when (s.mayStart group) fun s => (s.startGroup group).finish)

/-- RED_AMBER_END: the state timer has reached RA (R23). -/
def execRedAmberEnd (group : Nat) (s : State) : Out :=
  .next (s.when (s.groupSays group fun rec r => decide (r.aspect = .redAmber) && decide (rec.ra ≤ r.timer)) fun s =>
    (s.startGreen group).finish)

/-- Min green elapsed, and the green ended where the group is no longer in target (R27, R29). -/
def State.elapseMinGreen (s : State) (g : Nat) : State :=
  ((s.onGs fun q => q.upd g fun r => { r with minElapsed := true }).endIfDue g).finish

/-- MIN_GREEN_ELAPSED: the state timer has reached min green in GREEN (R27, R29). -/
def execMinGreenElapsed (group : Nat) (s : State) : Out :=
  .next (s.when (s.groupSays group fun rec r =>
      decide (r.aspect = .green) && !r.minElapsed && decide (rec.minGreen ≤ r.timer)) fun s => s.elapseMinGreen group)

/-- AMBER_END: the state timer has reached the amber time (R23). -/
def execAmberEnd (group : Nat) (s : State) : Out :=
  .next (s.when (s.groupSays group fun rec r => decide (r.aspect = .amber) && decide (rec.amber ≤ r.timer)) fun s =>
    (s.onGs fun q => q.upd group (GroupRun.enter .red)).finish)

/-- CLEARANCE_END: the state timer has reached the pedestrian clearance (R25). -/
def execClearanceEnd (group : Nat) (s : State) : Out :=
  .next (s.when (s.groupSays group fun rec r => decide (r.aspect = .clearance) && decide (rec.clearance ≤ r.timer)) fun s =>
    (s.onGs fun q => q.upd group (GroupRun.enter .red)).finish)

/-- The length of a half of a clearance flash and of the flash pattern, in ds (R25, R37). -/
def halfDs : Nat := 5

/-- CLEARANCE_FLASH_HALF: the next half of a clearance flash begins (R25). -/
def execClearanceFlashHalf (group : Nat) (s : State) : Out :=
  .next (s.when (s.groupSays group fun _ r =>
      decide (r.aspect = .clearance) && decide (halfDs * (r.halves + 1) ≤ r.timer)) fun s =>
    (s.onGs fun q => q.upd group fun r => { r with halves := r.halves + 1 }).finish)

/-- FLASH_HALF: the next half of the flash pattern begins (R37). -/
def execFlashHalf (s : State) : Out :=
  .next (s.when (decide (s.fru.mode.regime = .flashPattern) && decide (halfDs ≤ s.gs.flashTimer)) fun s =>
    (s.onGs fun q => { q with flashTimer := q.flashTimer - halfDs, flashLit := !q.flashLit }).finish)

end Sys2Proof.Machine
end

