-- ==== Sys2Proof/Machine/StageCmds.lean ====
section
/-! DEFINITION. The Stage Controller's events: change points, the wrap, sync correction, and the decisions of an ACTUATED plan
(R52, R55 to R59, R61, R63). -/

namespace Sys2Proof.Machine

/-! ### The cycle clock -/

/-- The stage whose change point a clock value is, if any (R52). -/
def Plan.stageAt? (p : Plan) (clock : Nat) : Option Nat :=
  ((List.range p.stages.length).map (· + 1)).find? fun k =>
    match p.stage? k with
    | some st => st.change == clock
    | none => false

/-- The clock one ds on, from C − 1 to 0, with the arrival it makes (R52). -/
def Stages.advanceOne (c : Stages) (p : Plan) : Stages :=
  let clock := (c.clock + 1) % p.cycle
  { c with
    clock := clock
    arrivals := match p.stageAt? clock with
      | some k => c.arrivals ++ [k]
      | none => c.arrivals }

/-- Whether this ds is one of correction (R61). -/
def State.correctable (s : State) : Bool :=
  match s.running? .fixed with
  | none => false
  | some p =>
    match s.stageNow? p with
    | none => false
    | some st => s.sc.established && s.minReached st && decide (s.sc.allowance ≠ 0) && decide (s.sc.delta ≠ 0)

/-- One ds of correction: with Δ above 0 the clock advances 2, below 0 it stands (R61). -/
def Stages.correct (c : Stages) (p : Plan) : Stages :=
  let c := { c with owed := false, allowance := c.allowance - 1 }
  if 0 < c.delta then { ((c.advanceOne p).advanceOne p) with delta := c.delta - 1 } else { c with delta := c.delta + 1 }

/-- SYNC_CORRECTION: the correction of a ds that has passed (R61, log 16). -/
def execSyncCorrection (s : State) : Out :=
  .next (match s.running? .fixed with
    | some p => s.when (s.sc.owed && s.correctable) fun s => (s.onSc fun c => c.correct p).finish
    | none => s)

/-- The front arrival taken. -/
def Stages.takeArrival (c : Stages) : Stages := { c with arrivals := c.arrivals.tail }

/-- CHANGE_POINT_REACHED: the clock has arrived at P_k, k > 1: stage k is requested (R52). -/
def execChangePointReached (s : State) : Out :=
  .next (match s.running? .fixed, s.sc.arrivals with
    | some p, k :: _ => if k = 1 then s else (((s.onSc Stages.takeArrival).requestStage p k).finish)
    | _, _ => s)

/-- The wrap: a pending plan is taken, or stage 1 is requested (R52, R63). -/
def State.takeWrap (s : State) (p : Plan) : State :=
  let s := s.onSc Stages.takeArrival
  (if s.sc.pending.isSome then s.takeOverInRun else s.requestStage p 1).finish

/-- CYCLE_WRAP: the clock has arrived at 0 (R52, R63). -/
def execCycleWrap (s : State) : Out :=
  .next (match s.running? .fixed, s.sc.arrivals with
    | some p, k :: _ => if k = 1 then s.takeWrap p else s
    | _, _ => s)

/-! ### The decisions: each event acts only where an ACTUATED plan runs in one of its stages (R55 to R59) -/

/-- Whether the current stage of an ACTUATED plan satisfies a test. -/
def State.stageSays (s : State) (f : Stage → Bool) : Bool :=
  match s.running? .actuated with
  | none => false
  | some p =>
    match s.stageNow? p with
    | some st => f st
    | none => false

/-- GAP_OUT: a green group has gapped out; the SC decides (R55, R56). -/
def execGapOut (group : Nat) (s : State) : Out :=
  .next (s.when (s.stageSays fun _ => s.gappedOut group) State.finish)
/-- STAGE_MIN_REACHED: (a) of R56 holds; the SC decides. -/
def execStageMinReached (s : State) : Out := .next (s.when (s.stageSays s.minReached) State.finish)
/-- STAGE_MAX_REACHED: stage elapsed has reached the bounded stage max; the SC decides (R56). -/
def execStageMaxReached (s : State) : Out :=
  .next (s.when (s.stageSays fun st => decide (s.dt.live.boundedMax st ≤ s.sc.elapsed)) State.finish)
/-- STAGE_END_DECISION: the SC's decision at this instant (R56, R57, R63). -/
def execStageEndDecision (s : State) : Out := .next (s.when (s.stageSays s.mayLeave) State.finish)
/-- HOLD_EXPIRED: the HOLD timer stands at 0; the SC decides (R58). -/
def execHoldExpired (s : State) : Out := .next (s.when (s.stageSays fun _ => decide (s.sc.hold = 0)) State.finish)
/-- FORCED_STAGE_REQUEST: a forced stage stands; it is requested where it may be (R59). -/
def execForcedStageRequest (s : State) : Out := .next (s.when (s.stageSays fun _ => s.sc.forced.isSome) State.finish)

end Sys2Proof.Machine
end

