-- ==== Sys2Proof/Machine/StoreCmds.lean ====
section
/-! DEFINITION. The Store Controller's events: the end of a write and the running out of its write time (R174). -/

namespace Sys2Proof.Machine

/-- Whether the write time of a write has run (R171, R174). -/
def Flight.timeRun (f : Flight) : Bool := decide (writeTime f.image ≤ f.elapsed)

/-- STORE_WRITE_END: the read-back is complete, and matches what was written or not; a write whose time has run without it
is a mismatch, whatever is read back after that instant (R174, log 41). -/
def execStoreWriteEnd (matched : Bool) (s : State) : Out :=
  .next (match s.stc.flight with
    | none => s
    | some f => if matched && !f.timeRun then s.writeMatched f else s.writeMismatched f)

/-- STORE_WRITE_TIME_EXPIRED: a write whose time has run is judged a mismatch (R174). -/
def execStoreWriteTimeExpired (s : State) : Out :=
  .next (match s.stc.flight with
    | none => s
    | some f => if f.timeRun then s.writeMismatched f else s)

end Sys2Proof.Machine
end

