-- ==== Sys2Proof/Machine/Frames.lean ====
section
/-! DEFINITION. The frame receiver and the link silence timer: BYTE_RECEIVED, FRAME_GAP_TIMEOUT, FRAME_RECEIVED, REPLY_SENT and
LINK_SILENCE_EXPIRY (R64, R179 to R185). -/

namespace Sys2Proof.Machine

/-! ### Receiving -/

/-- The receiver back in HUNT with the frame discarded (R180). -/
def Link.hunt (l : Link) : Link := { l with rxPhase := .hunt, rxBytes := [] }

/-- LEN of the frame in progress: its second byte. -/
def Link.rxLen (l : Link) : Nat := (l.rxBytes.getD 1 0).toNat

/-- The bytes of a whole frame after A5 hex: ADDR, LEN, KIND, body and CRC pair (section 11.6). -/
def Link.rxWhole (l : Link) : Nat := 5 + l.rxLen

/-- Whether a whole frame has been received and not yet judged. -/
def Link.frameReady (l : Link) : Bool := decide (l.rxPhase = .check) && decide (l.rxWhole ≤ l.rxBytes.length)

/-- A byte taken in HEADER: ADDR, LEN, KIND (R180). -/
def Link.headerByte (l : Link) (b : Byte) : Link :=
  let l' := { l with rxBytes := l.rxBytes ++ [b] }
  match l.rxBytes.length with
  | 0 => if 0x80 ≤ b.toNat then l.hunt else l'
  | 1 => if Config.bodyMax < b.toNat then l.hunt else l'
  | _ => { l' with rxPhase := if l.rxLen = 0 then .check else .body }

/-- A byte taken by the receiver (R180). -/
def Link.takeByte (l : Link) (b : Byte) : Link :=
  match l.rxPhase with
  | .hunt => if b = 0xA5#8 then { l with rxPhase := .header, rxBytes := [] } else l
  | .header => l.headerByte b
  | .body =>
    let l' := { l with rxBytes := l.rxBytes ++ [b] }
    if l'.rxBytes.length < 3 + l.rxLen then l' else { l' with rxPhase := .check }
  | .check => if l.frameReady then l else { l with rxBytes := l.rxBytes ++ [b] }

/-! ### Judging a frame -/

/-- The bytes the CRC is taken over: ADDR, LEN, KIND and the body (R180). -/
def Link.rxInner (l : Link) : List Byte := l.rxBytes.take (3 + l.rxLen)

/-- Whether the frame's CRC pair is right, high byte first (R180). -/
def Link.crcRight (l : Link) : Bool := (l.rxBytes.drop (3 + l.rxLen)).take 2 == crcPair l.rxInner

/-- The frame's body. -/
def Link.rxBody (l : Link) : List Byte := l.rxInner.drop 3

/-- A 12-byte set of circuits. -/
def circuitsAt (b : List Byte) (off : Nat) : CircuitSet := BitVec.ofNat 96 (field b off 12)

/-- A 4-byte set of groups or detectors. -/
def groupsAt (b : List Byte) (off : Nat) : GroupSet := BitVec.ofNat 32 (field b off 4)

/-- A 4-byte identity. -/
def identityAt (b : List Byte) (off : Nat) : BitVec 32 := BitVec.ofNat 32 (field b off 4)

/-- MODE_REQUEST by its value; any other value is refused (R142). -/
def State.modeRequest (s : State) (v : Byte) : State :=
  match v.toNat with
  | 0 => s.reqModeDark
  | 1 => s.reqModeFlash
  | 2 => s.reqModeRestart
  | _ => s.answer Machine.reqModeRequest (refusedField 0)

/-- CABLE_TEST by its kind; any other kind is refused (R112). -/
def State.cableTest (s : State) (kind number : Byte) : State :=
  match kind.toNat with
  | 0 => s.reqLeakTest number
  | 1 => s.reqCrossTest number
  | _ => s.answer Machine.reqCableTest (refusedField 0)

/-- FAULT_READ by its form; any other form is refused in a request with part number 0 (R132, R183, log 52). -/
def State.faultRead (s : State) (b : List Byte) : State :=
  let byteAt := fun i => b.getD i 0
  match (byteAt 0).toNat with
  | 0 => s.reqFaultEntries (byteAt 1) (byteAt 2) (byteAt 3) (byteAt 4)
  | 1 => s.reqFaultRows (byteAt 1) (byteAt 2) (byteAt 3) (byteAt 4)
  | _ =>
    if byteAt 4 = 0#8 then s.answer Machine.reqFaultRead (refusedField 0)
    else s.answerFromHeld Machine.reqFaultRead (b.take 4) (byteAt 4).toNat 4

/-- A request of a kind in the catalogue, handed to its owning block (R181, section 11.5). -/
def State.handOn (s : State) (kind : Nat) (b : List Byte) : State :=
  let byteAt := fun i => b.getD i 0
  match kind with
  | 0x01 => s.reqIdent
  | 0x02 => s.reqStatus
  | 0x03 => s.reqGroupRead (byteAt 0)
  | 0x04 => s.reqCircuitRead (byteAt 0) (byteAt 1)
  | 0x05 => s.reqCableRead (byteAt 0) (byteAt 1) (byteAt 2)
  | 0x06 => s.reqDetectorRead (byteAt 0)
  | 0x07 => s.faultRead b
  | 0x08 => s.reqRecordRead (byteAt 0) (byteAt 1) (byteAt 2)
  | 0x09 => s.reqStoreStatus
  | 0x10 => s.reqNoticeFetch (byteAt 0)
  | 0x11 => s.reqLatchClear (byteAt 0) (byteAt 1) (byteAt 2)
  | 0x20 => s.reqDemand (groupsAt b 0)
  | 0x21 => s.reqHold (BitVec.ofNat 16 (field b 0 2))
  | 0x22 => s.reqRelease
  | 0x23 => s.reqForceStage (byteAt 0)
  | 0x24 => s.reqPlanSelect (byteAt 0)
  | 0x25 => s.syncAddressed (BitVec.ofNat 16 (field b 0 2))
  | 0x30 => s.modeRequest (byteAt 0)
  | 0x31 => s.reqSoftReset
  | 0x40 => s.reqLearn (circuitsAt b 0)
  | 0x41 => s.reqLearnCancel (circuitsAt b 0)
  | 0x42 => s.cableTest (byteAt 0) (byteAt 1)
  | 0x43 => s.reqSubstitute (byteAt 0) (byteAt 1)
  | 0x50 => s.reqDefClear
  | 0x51 => s.reqDefRecord b
  | 0x52 => s.reqDefCommit (identityAt b 0)
  | 0x53 => s.reqPlanRecord b
  | 0x54 => s.reqPlanCommit (byteAt 0) (identityAt b 1)
  | 0x55 => s.reqPlanErase (byteAt 0)
  | 0x60 => s.reqRecordControl (byteAt 0) (groupsAt b 1) (byteAt 5) (byteAt 6) (groupsAt b 7) (byteAt 11)
  | _ => s.answer kind refusedKind

/-- Whether a body has the length its kind lays down; a "var" length is its owning rule's to check (R181). -/
def BodyLength.fits (n : Nat) : BodyLength → Bool
  | .fixed m => n == m
  | .var => true

/-- A good frame addressed to the module: exactly one reply, checked in the order of R181. -/
def State.takeRequest (s : State) (kind : Nat) (b : List Byte) : State :=
  match tget? catalogue kind with
  | none => s.answer kind refusedKind
  | some len => if len.fits b.length then s.handOn kind b else s.answer kind refusedLength

/-- A broadcast: SYNC of 2 bytes is handed to the Stage Controller, any other is ignored (R181). -/
def State.takeBroadcast (s : State) (kind : Nat) (b : List Byte) : State :=
  if kind = Machine.reqSync ∧ b.length = 2 then s.syncBroadcast (BitVec.ofNat 16 (field b 0 2)) else s

/-- A good frame: to the module or broadcast it is heard and handed on, to another address it is discarded (R180, R181,
R185). -/
def State.takeFrame (s : State) (addr kind : Nat) (b : List Byte) : State :=
  if addr = 0 then s.heardFrame.takeBroadcast kind b
  else if addr = s.li.address then s.heardFrame.takeRequest kind b
  else s

/-- A whole frame judged: the receiver returns to HUNT, and a frame whose CRC pair is right is taken (R180). -/
def State.judgeFrame (s : State) : State :=
  let l := s.li
  let s := s.onLi Link.hunt
  s.when l.crcRight fun s => s.takeFrame (l.rxBytes.getD 0 0).toNat (l.rxBytes.getD 2 0).toNat l.rxBody

/-! ### Link silence -/

/-- The LINK origin withdrawn from every group (R53, R64). -/
def State.withdrawLinks (s : State) : State := forEach (tkeys s.sc.demand) (fun g s => s.withdrawLink g) s

/-- The fallback plan selected where its slot is VALID (R64). -/
def State.selectFallback (s : State) : State :=
  match s.dt.live.junction with
  | some j => s.when (s.slotValid j.fallback) fun s => s.selectPlan j.fallback
  | none => s

/-- What the SC does on each raise of LINK_SILENT (R64). -/
def State.linkSilent (s : State) : State :=
  let s := s.onSc fun c => { c with hold := 0, forced := none }
  s.withdrawLinks.selectFallback

/-! ### The meanings -/

/-- BYTE_RECEIVED (R180). -/
def execByteReceived (byte : Byte) (s : State) : Out :=
  .next (s.when s.receiverOpen fun s => s.onLi fun l => l.takeByte byte)
/-- FRAME_GAP_TIMEOUT: a gap of more than four character times inside a frame (R180). -/
def execFrameGapTimeout (s : State) : Out :=
  .next (s.onLi fun l => if l.frameReady then l else l.hunt)
/-- FRAME_RECEIVED: the second CRC byte has arrived, and the frame is judged and taken (R180, R181, log 4). -/
def execFrameReceived (s : State) : Out := .next (s.when (s.receiverOpen && s.li.frameReady) State.judgeFrame)
/-- REPLY_SENT: the reply's last byte has been sent; the receiver opens, and a soft reset asked for is owed (R143, R181). -/
def execReplySent (s : State) : Out :=
  .next (s.onLi fun l =>
    { l with reply := none, softReset := if l.softReset = .replying then .owed else l.softReset })
/-- LINK_SILENCE_EXPIRY: the timer has run out; the raise acts on the mode before the SC acts (R64, R185, log 34). -/
def execLinkSilenceExpiry (s : State) : Out :=
  .next (s.when (decide (s.li.silence = .running) && decide (s.li.remaining = 0)) fun s =>
    (((s.onLi fun l => { l with silence := .expired }).raise .junction .linkSilent).linkSilent).finish)

end Sys2Proof.Machine
end

