-- ==== Sys2Proof/Machine/Tick.lean ====
section
/-! DEFINITION. The crystal timebase: 5 ms of it, and what a ds boundary brings, on an empty queue (log 1). A timer that comes
to its value here leads to nothing of itself: the event has a row of its own (log 2). -/

namespace Sys2Proof.Machine

/-- The ticks of a ds: 20 of 5 ms. -/
def ticksPerDs : Nat := 20

/-- The length of a tick in ms (R67). -/
def tickMs : Nat := 5

/-! ### Milliseconds -/

/-- The proving timer in CLOSING and OPENING (R150, R151). -/
def Supply.countMs (p : Supply) : Supply :=
  match p.contactor with
  | .closing | .opening => { p with provingTimer := min provingLimit (p.provingTimer + tickMs) }
  | .opened | .closed => p

/-- The time of the write in flight, up to its write time (R171). -/
def Flight.countMs (f : Flight) : Flight := { f with elapsed := min (writeTime f.image) (f.elapsed + tickMs) }

/-! ### A ds boundary, block by block -/

/-- The state timers of the groups and the flash pattern's half (R21, R37). -/
def Sequencer.countDs (q : Sequencer) (flashing : Bool) : Sequencer :=
  { q with
    groups := tmap q.groups fun _ r => { r with timer := satInc 65535 r.timer }
    flashTimer := if flashing then q.flashTimer + 1 else q.flashTimer }

/-- The Mode Controller's timers (R137, R140). -/
def Response.countDs (f : Response) : Response :=
  { f with
    modeTimer := if f.mode = .startFlash ∨ f.mode = .startRed then satInc 600 f.modeTimer else f.modeTimer
    allRed := f.allRed.map (satInc 100) }

/-- A ds of cycle clock whose correction was left undone is an ordinary advance (R52, log 16). -/
def Stages.settleOwed (c : Stages) (p : Plan) : Stages := if c.owed then { c.advanceOne p with owed := false } else c

/-- The cycle clock at a ds boundary: an ordinary advance, or a correction owed (R52, R61). -/
def State.countClock (s : State) : State :=
  match s.running? .fixed with
  | none => s
  | some p =>
    let s := s.onSc fun c => c.settleOwed p
    if s.correctable then s.onSc fun c => { c with owed := true } else s.onSc fun c => c.advanceOne p

/-- The SC's timers: stage elapsed, HOLD and the extension timers (R50, R51, R55, R58). -/
def State.countStage (s : State) : State :=
  s.onSc fun c =>
    { c with
      elapsed := if c.established then satInc 65535 c.elapsed else c.elapsed
      hold := c.hold - 1
      ext := tmap c.ext fun g x => if s.isGreen g && !x.presence then { x with timer := x.timer - 1 } else x }

/-- A detector's timers at a ds boundary (R71). -/
def DetRun.countDs (r : DetRun) (rec : DetectorRec) : DetRun :=
  let r := if r.level then
      { r with presence := satInc 65535 r.presence, occupied := satInc intervalDs r.occupied }
    else { r with gap := r.gap.map (satInc 65535) }
  { r with absence := satInc rec.maxAbsenceDs r.absence }

/-- The DU at a ds boundary. -/
def State.countDetectors (s : State) : State :=
  s.onDu fun u =>
    { u with
      dets := tmap u.dets fun d r =>
        match s.detectorRec? d with
        | some rec => r.countDs rec
        | none => r }

/-- Whether a circuit is the source or a sensor of the pattern test in progress (R105). -/
def CableUnit.inTest (u : CableUnit) (c : Nat) : Bool :=
  match u.test with
  | some t => t.source == c || t.sensors.any fun x => x.circuit == c
  | none => false

/-- The loop phases in a wrap (R104). -/
def loopPhases : Nat := 10

/-- A dark record at a ds boundary; an application falls due as the phase wraps (R104, R105). -/
def State.countDark (s : State) (c : Nat) (r : Dark) : Dark :=
  if s.circuitIsOn c then { r with due := false }
  else
    let tested := match s.circuitRec? c with
      | some rec => rec.loopTest
      | none => false
    { r with
      time := satInc 65535 r.time
      phase := (r.phase + 1) % loopPhases
      due := decide (r.phase + 1 = loopPhases) && tested && s.darkSettled c && !s.csu.inTest c }

/-- The link silence timer (R185). -/
def Link.countDs (l : Link) : Link :=
  match l.silence with
  | .running => { l with remaining := l.remaining - 1 }
  | .off | .expired => l

/-- A ds boundary (5.1). -/
def State.dsBoundary (s : State) : State :=
  let s := { s with uptime := s.uptime + 1 }
  let s := s.onGs fun q => q.countDs (decide (s.fru.mode.regime = .flashPattern))
  let s := s.onFru Response.countDs
  let s := s.countClock.countStage.countDetectors
  let s := s.onCsu fun u => { u with dark := tmap u.dark fun c r => s.countDark c r }
  s.onLi Link.countDs

/-- 5 ms of the crystal timebase (log 1). -/
def State.tick (s : State) : State :=
  let s := (s.onSpc Supply.countMs).onStc fun c => { c with flight := c.flight.map Flight.countMs }
  if s.subTick + 1 < ticksPerDs then { s with subTick := s.subTick + 1 } else { s.dsBoundary with subTick := 0 }

end Sys2Proof.Machine
end

