-- ==== Sys2Proof/Machine/Dispatch.lean ====
section
/-! DEFINITION. One arm per command: the meaning of each row of the table. -/

namespace Sys2Proof.Machine

/-- The effect of a command on everything but the queue of commands. -/
def exec (i : Instr) (s : State) : Host.Outcome State Fault Refusal :=
  match i with
  | .hardReset rateFast address => Sys2Proof.Machine.execHardReset rateFast address s
  | .powerUpLoad failing => Sys2Proof.Machine.execPowerUpLoad failing s
  | .frameGapTimeout => Sys2Proof.Machine.execFrameGapTimeout s
  | .frameReceived => Sys2Proof.Machine.execFrameReceived s
  | .replySent => Sys2Proof.Machine.execReplySent s
  | .linkSilenceExpiry => Sys2Proof.Machine.execLinkSilenceExpiry s
  | .ident => Sys2Proof.Machine.execIdent s
  | .status => Sys2Proof.Machine.execStatus s
  | .groupRead group => Sys2Proof.Machine.execGroupRead group s
  | .circuitRead circuit clear => Sys2Proof.Machine.execCircuitRead circuit clear s
  | .cableRead cable clear part => Sys2Proof.Machine.execCableRead cable clear part s
  | .detectorRead detector => Sys2Proof.Machine.execDetectorRead detector s
  | .faultReadEntries sourceKind sourceNumber start part => Sys2Proof.Machine.execFaultReadEntries sourceKind sourceNumber start part s
  | .faultReadRows kind selector start part => Sys2Proof.Machine.execFaultReadRows kind selector start part s
  | .recordRead sourceKind number clear => Sys2Proof.Machine.execRecordRead sourceKind number clear s
  | .storeStatus => Sys2Proof.Machine.execStoreStatus s
  | .noticeFetch again => Sys2Proof.Machine.execNoticeFetch again s
  | .latchClear sourceKind sourceNumber kind => Sys2Proof.Machine.execLatchClear sourceKind sourceNumber kind s
  | .demand groups => Sys2Proof.Machine.execDemand groups s
  | .hold duration => Sys2Proof.Machine.execHold duration s
  | .release => Sys2Proof.Machine.execRelease s
  | .forceStage stage => Sys2Proof.Machine.execForceStage stage s
  | .planSelect slot => Sys2Proof.Machine.execPlanSelect slot s
  | .sync broadcast hostTime => Sys2Proof.Machine.execSync broadcast hostTime s
  | .modeRequestDark => Sys2Proof.Machine.execModeRequestDark s
  | .modeRequestFlash => Sys2Proof.Machine.execModeRequestFlash s
  | .modeRequestRestart => Sys2Proof.Machine.execModeRequestRestart s
  | .softReset => Sys2Proof.Machine.execSoftReset s
  | .softResetAction => Sys2Proof.Machine.execSoftResetAction s
  | .learn circuits => Sys2Proof.Machine.execLearn circuits s
  | .learnCancel circuits => Sys2Proof.Machine.execLearnCancel circuits s
  | .cableTestLeak cable => Sys2Proof.Machine.execCableTestLeak cable s
  | .cableTestCross circuit => Sys2Proof.Machine.execCableTestCross circuit s
  | .substitute circuit channel => Sys2Proof.Machine.execSubstitute circuit channel s
  | .defClear => Sys2Proof.Machine.execDefClear s
  | .defRecord body => Sys2Proof.Machine.execDefRecord body s
  | .defCommit identity => Sys2Proof.Machine.execDefCommit identity s
  | .planRecord body => Sys2Proof.Machine.execPlanRecord body s
  | .planCommit slot identity => Sys2Proof.Machine.execPlanCommit slot identity s
  | .planErase slot => Sys2Proof.Machine.execPlanErase slot s
  | .recordControl order groups enable format detectors detEnable => Sys2Proof.Machine.execRecordControl order groups enable format detectors detEnable s
  | .zeroCrossingClose elapsed m => Sys2Proof.Machine.execZeroCrossingClose elapsed m s
  | .timedClose elapsed m => Sys2Proof.Machine.execTimedClose elapsed m s
  | .shownEpisodeClosed group => Sys2Proof.Machine.execShownEpisodeClosed group s
  | .conflictRaise => Sys2Proof.Machine.execConflictRaise s
  | .greenInFlashRaise => Sys2Proof.Machine.execGreenInFlashRaise s
  | .classConfirmed circuit => Sys2Proof.Machine.execClassConfirmed circuit s
  | .learningComplete circuit => Sys2Proof.Machine.execLearningComplete circuit s
  | .frequencyDetected => Sys2Proof.Machine.execFrequencyDetected s
  | .supplyBandRaise => Sys2Proof.Machine.execSupplyBandRaise s
  | .supplyBandClear => Sys2Proof.Machine.execSupplyBandClear s
  | .supplyLostRaise => Sys2Proof.Machine.execSupplyLostRaise s
  | .supplyReturn => Sys2Proof.Machine.execSupplyReturn s
  | .contactorCloseProved => Sys2Proof.Machine.execContactorCloseProved s
  | .contactorNoClose => Sys2Proof.Machine.execContactorNoClose s
  | .deadBusProved => Sys2Proof.Machine.execDeadBusProved s
  | .contactorOpenProved => Sys2Proof.Machine.execContactorOpenProved s
  | .contactorWeld => Sys2Proof.Machine.execContactorWeld s
  | .liveBusInOpen => Sys2Proof.Machine.execLiveBusInOpen s
  | .unmappedCurrentRaise channel => Sys2Proof.Machine.execUnmappedCurrentRaise channel s
  | .unmappedCurrentClear channel => Sys2Proof.Machine.execUnmappedCurrentClear channel s
  | .loopApplication circuit ohms clean => Sys2Proof.Machine.execLoopApplication circuit ohms clean s
  | .cableOpenRaise circuit => Sys2Proof.Machine.execCableOpenRaise circuit s
  | .cableOpenClear circuit => Sys2Proof.Machine.execCableOpenClear circuit s
  | .leakMeasurementStart => Sys2Proof.Machine.execLeakMeasurementStart s
  | .leakMeasurementComplete => Sys2Proof.Machine.execLeakMeasurementComplete s
  | .leakLevelRaise cable level => Sys2Proof.Machine.execLeakLevelRaise cable level s
  | .leakLevelClear cable level => Sys2Proof.Machine.execLeakLevelClear cable level s
  | .patternTestStart => Sys2Proof.Machine.execPatternTestStart s
  | .patternTestComplete => Sys2Proof.Machine.execPatternTestComplete s
  | .cableCrossRaise source sensor => Sys2Proof.Machine.execCableCrossRaise source sensor s
  | .cableCrossClear source sensor => Sys2Proof.Machine.execCableCrossClear source sensor s
  | .detectorActivation detector samples => Sys2Proof.Machine.execDetectorActivation detector samples s
  | .detectorRelease detector samples => Sys2Proof.Machine.execDetectorRelease detector samples s
  | .detStuckOn detector => Sys2Proof.Machine.execDetStuckOn detector s
  | .detStuckOff detector => Sys2Proof.Machine.execDetStuckOff detector s
  | .intervalClose => Sys2Proof.Machine.execIntervalClose s
  | .groupStart group => Sys2Proof.Machine.execGroupStart group s
  | .redAmberEnd group => Sys2Proof.Machine.execRedAmberEnd group s
  | .minGreenElapsed group => Sys2Proof.Machine.execMinGreenElapsed group s
  | .amberEnd group => Sys2Proof.Machine.execAmberEnd group s
  | .clearanceEnd group => Sys2Proof.Machine.execClearanceEnd group s
  | .clearanceFlashHalf group => Sys2Proof.Machine.execClearanceFlashHalf group s
  | .flashHalf => Sys2Proof.Machine.execFlashHalf s
  | .changePointReached => Sys2Proof.Machine.execChangePointReached s
  | .cycleWrap => Sys2Proof.Machine.execCycleWrap s
  | .syncCorrection => Sys2Proof.Machine.execSyncCorrection s
  | .gapOut group => Sys2Proof.Machine.execGapOut group s
  | .stageMinReached => Sys2Proof.Machine.execStageMinReached s
  | .stageMaxReached => Sys2Proof.Machine.execStageMaxReached s
  | .stageEndDecision => Sys2Proof.Machine.execStageEndDecision s
  | .holdExpired => Sys2Proof.Machine.execHoldExpired s
  | .forcedStageRequest => Sys2Proof.Machine.execForcedStageRequest s
  | .autoStart => Sys2Proof.Machine.execAutoStart s
  | .startFlashTimeout => Sys2Proof.Machine.execStartFlashTimeout s
  | .enterRun => Sys2Proof.Machine.execEnterRun s
  | .allRedExpired => Sys2Proof.Machine.execAllRedExpired s
  | .storeWriteEnd matched => Sys2Proof.Machine.execStoreWriteEnd matched s
  | .storeWriteTimeExpired => Sys2Proof.Machine.execStoreWriteTimeExpired s
  | .byteReceived byte => Sys2Proof.Machine.execByteReceived byte s

end Sys2Proof.Machine
end

