-- ==== Sys2Proof/Safety.lean ====
section
/-! DEFINITION. What counts as a safe state: the invariants the spec's prose promises of the whole part, in the terms the
statements use. -/

namespace Sys2Proof.Machine

/-- Two groups named in one conflict record are never both commanded GREEN, nor one RED_AMBER and the other GREEN (R32):
here no two conflicting groups of 1..32 are both in GREEN or RED_AMBER. -/
def State.ConflictFree (s : State) : Prop :=
  ∀ i j : Nat, 1 ≤ i → i < j → j ≤ Config.groups → s.dt.live.conflicting i j = true →
    ¬ (s.undecided i = true ∧ s.undecided j = true)

/-- In every junction mode but DARK the contactor is CLOSED (R137). -/
def State.ContactorHeld (s : State) : Prop := s.fru.mode ≠ .dark → s.spc.contactor = .closed

/-- In START_FLASH, FLASH, DARK and SUPPLY_WAIT every group stands at the rest aspect of its kind (R22, R37, R38). -/
def State.RestOutsideAspect (s : State) : Prop :=
  s.fru.mode.regime ≠ .aspect → ∀ g r, tget? s.gs.groups g = some r → r.aspect = (s.kindOf g).rest

/-- Every group record is at the rest aspect of its kind (R21). -/
def State.AllRest (s : State) : Prop := ∀ e ∈ s.gs.groups, e.2.aspect = (s.kindOf e.1).rest

/-- A requested green set stands (R33): every group of it that is not lockout held is in GREEN, and no other group is in
GREEN or RED_AMBER. -/
def State.Stands (s : State) (set : GroupSet) : Prop :=
  ∀ e ∈ s.gs.groups,
    (inSet set e.1 = true → e.2.lockHeld = true ∨ e.2.aspect = .green)
      ∧ (inSet set e.1 = false → e.2.aspect ≠ .green ∧ e.2.aspect ≠ .redAmber)

/-- Group i conflicts with group j, and v is the intergreen I(i→j) from i to j (R9): a conflict record of lower group a and
higher group b holds I(a→b) and I(b→a). -/
def Rival (d : DefSet) (j i v : Nat) : Prop :=
  ∃ e ∈ d.conflicts,
    (e.1 / 256 = j ∧ e.1 % 256 = i ∧ v = e.2.ji) ∨ (e.1 / 256 ≠ j ∧ e.1 % 256 = j ∧ e.1 / 256 = i ∧ v = e.2.ij)

/-- Outside RUN no group is in target. The all-red timer runs in CLEARING alone, and there exactly while every group is at
rest (R36, R140). -/
def State.AllRedFollows (s : State) : Prop :=
  (s.fru.mode ≠ .run → ∀ e ∈ s.gs.groups, e.2.inTarget = false)
    ∧ (s.fru.mode ≠ .clearing → s.fru.allRed = none)
    ∧ (s.fru.mode = .clearing → (s.fru.allRed ≠ none ↔ s.AllRest))

/-- In RUN a stage not yet reported established does not stand, so that the report comes at the first instant it does; and
one that is established has been reported (R33, R51). -/
def State.ReportPrompt (s : State) : Prop :=
  (s.fru.mode = .run → s.gs.reportOwed = true →
      s.sc.established = false ∧ ∀ set, s.gs.requested = some set → ¬ s.Stands set)
    ∧ (s.sc.established = true → s.fru.mode = .run ∧ s.gs.reportOwed = false)

/-- A group in RED_AMBER has no rival in GREEN or RED_AMBER, and by the end of its red-amber the intergreen from every rival's
commanded green end is over (R31, R32). -/
def State.RedAmberTimed (s : State) : Prop :=
  ∀ j rec r, s.groupRec? j = some rec → tget? s.gs.groups j = some r → r.aspect = .redAmber →
    ∀ i v q, Rival s.dt.live j i v → i ≠ j → tget? s.gs.groups i = some q →
      q.aspect ≠ .green ∧ q.aspect ≠ .redAmber ∧ q.greenEnd + v + r.timer ≤ s.uptime + rec.ra

/-- The drive is as the contactor state has it: driven in CLOSING and CLOSED, released in OPEN and OPENING (R149). -/
def State.DriveFollows (s : State) : Prop := s.spc.drive = s.spc.contactor.driven

/-- ATTN is asserted exactly while the queue holds a notice or the overflow mark is set (R170). -/
def State.AttnFollows (s : State) : Prop := s.ru.attn = attnOf s.ru.queue s.ru.overflow

/-- The notice queue holds at most 48 entries (R167). -/
def State.QueueBounded (s : State) : Prop := s.ru.queue.length ≤ Config.queueMax

/-- A live entry of the fault table is latched (R129). -/
def State.LiveLatched (s : State) : Prop := ∀ e ∈ s.fru.table, e.2.live = true → e.2.latched = true

/-- The fault table holds at most one entry for a key, by rising key (R129, R132). -/
def State.FaultsInOrder (s : State) : Prop := tsorted s.fru.table = true

/-- A group held by lockout is out of target and in none of GREEN, RED_AMBER and CLEARANCE (R34); `LockoutFollows` says that
the groups held are those of the lockout set. -/
def State.LockedQuiet (s : State) : Prop :=
  ∀ g r, tget? s.gs.groups g = some r → r.lockHeld = true →
    r.inTarget = false ∧ r.aspect ≠ .green ∧ r.aspect ≠ .redAmber ∧ r.aspect ≠ .clearance

/-- Every group is in an aspect of its kind (R21). -/
def State.AspectsFit (s : State) : Prop :=
  ∀ g rec r, s.groupRec? g = some rec → tget? s.gs.groups g = some r →
    match rec.kind with
    | .vehicle => r.aspect = .red ∨ r.aspect = .redAmber ∨ r.aspect = .green ∨ r.aspect = .amber
    | .arrow => r.aspect = .dark ∨ r.aspect = .green
    | .pedestrian => r.aspect = .red ∨ r.aspect = .green ∨ r.aspect = .clearance

/-- The banks hold the 104 channels, the store the ten images, the SC the eight slots and the RU the 32 groups and 24
detectors, each once and in order (section 5.2, R43, R152, R157, R164, R171). -/
def State.Shaped (s : State) : Prop :=
  tkeys s.ob.channels = (List.range Config.channels).map (· + 1)
    ∧ tkeys s.stc.areas = (List.range 10).map (· + 1)
    ∧ tkeys s.sc.slots = (List.range Config.slots).map (· + 1)
    ∧ tkeys s.ru.groups = (List.range Config.groups).map (· + 1)
    ∧ tkeys s.ru.dets = (List.range Config.detectors).map (· + 1)

/-! ### What the prose promises of the whole part -/

/-- Every channel is commanded as its mapped circuit's group stands in the regime of the mode, and every circuit has the
manner that follows from them (R26, R37, R38, R41, R84). -/
def State.CommandsFollow (s : State) : Prop :=
  (∀ e ∈ s.ob.channels, e.2.command = s.channelCommand e.1) ∧ ∀ e ∈ s.pu.circuits, e.2.flashing = s.isFlashing e.1

/-- Whether a slot named, if any, holds a VALID plan. -/
def State.ValidOrNone (s : State) (o : Option Nat) : Prop := ∀ k, o = some k → ∃ p id, tget? s.sc.slots k = some (.valid p id)

/-- The current and the pending plan are each VALID whenever not none, and never the same slot (R50). -/
def State.PlansInForce (s : State) : Prop :=
  s.ValidOrNone s.sc.current ∧ s.ValidOrNone s.sc.pending ∧ ∀ k, s.sc.current = some k → s.sc.pending ≠ some k

/-- In RUN the live definition is VALID, a plan is current, and no fault of effective severity FLASH or above is live
(R137); that the plan is VALID and the contactor CLOSED, `PlansInForce` and `ContactorHeld` say. -/
def State.RunGuarded (s : State) : Prop :=
  s.fru.mode = .run → s.dt.valid = true ∧ s.sc.current ≠ none ∧ s.liveAtLeast .flash = false

/-- Until the store load is complete the junction is DARK with the contactor OPEN, no start asked for and no soft reset under
way (R137, R176, R177). -/
def State.LoadingQuiet (s : State) : Prop :=
  s.loading = true → s.fru.mode = .dark ∧ s.spc.contactor = .opened ∧ s.fru.startRequest = false
    ∧ s.fru.autoAwaited = false ∧ s.li.softReset = .none

/-- The lockout set holds the defined groups that have a circuit with a latched entry of effective severity LOCKOUT, each
group's record says whether it is in the set, and ALL_LOCKED is live exactly while the set holds every defined group and
there is one (R34 to R36, R136). -/
def State.LockoutFollows (s : State) : Prop :=
  s.fru.lockout = s.lockoutNow ∧ (∀ e ∈ s.gs.groups, e.2.lockHeld = s.isLocked e.1)
    ∧ s.isLive .junction .allLocked = s.allLocked

end Sys2Proof.Machine
end

