-- ==== Sys2Proof/Certificates/Slice0/Obligations.lean ====
section
/-! DEFINITION. The statements handed to the provers. The helpers of namespace Sys2Proof.Claims say what a reply is and
what a step may leave changed; each statement is one `def Obligations.<Name> : Prop`. -/

namespace Sys2Proof.Claims

open Sys2Proof.Machine

/-- The module has a link address (R179). -/
def Addressed (s : State) : Prop := 1 ≤ s.li.addrStrap.toNat ∧ s.li.addrStrap.toNat ≤ 30

/-- The module receives a request: it has an address, no reply is in progress and the store load is complete (R177, R179,
R181). What is sent at any other time `Obligations.ReceiverTakesBytes` says. -/
def Hears (s : State) : Prop := Addressed s ∧ s.li.reply = none ∧ s.loading = false

/-- The reply in progress is this module's to a request kind, with this body; a module without a link address replies to
nothing (R179, R182). -/
def Replied (t : State) (kind : Nat) (body : List Byte) : Prop :=
  (Addressed t →
      t.li.reply = some ⟨BitVec.ofNat 8 (t.li.addrStrap.toNat + 0x80), BitVec.ofNat 8 (kind + 0x80), body⟩)
    ∧ (¬ Addressed t → t.li.reply = none)

/-- The LI after a request answered: the reply in progress, the held read discarded, the rest as it was (R181, R183). -/
def Answered (s t : State) (kind : Nat) (body : List Byte) : Prop :=
  Replied t kind body ∧ t.li = { s.li with reply := t.li.reply, held := none }

/-- A request answered, and nothing else changed. -/
def OnlyAnswered (s t : State) (kind : Nat) (body : List Byte) : Prop :=
  Answered s t kind body ∧ t = { s with li := t.li }

/-- A request refused with REFUSED_FIELD at an offset, and nothing else changed (R182). -/
def RefusedAt (s t : State) (kind offset : Nat) : Prop := OnlyAnswered s t kind [0x12#8, BitVec.ofNat 8 offset]

/-- The banks apart from the commands. -/
def commandsApart (b : Banks) : Banks := { b with channels := tmap b.channels fun _ c => { c with command := false } }

/-- The Proving Unit apart from the command manners. -/
def mannersApart (p : Proving) : Proving := { p with circuits := tmap p.circuits fun _ r => { r with flashing := false } }

/-- The outputs that follow a change of groups or mode: commands, manners, and a pattern test they interrupt; nothing else
of OB, PU and CSU (R41, R84, R117). -/
def OutputsFollow (s t : State) : Prop :=
  commandsApart t.ob = commandsApart s.ob ∧ mannersApart t.pu = mannersApart s.pu
    ∧ t.csu = { s.csu with test := t.csu.test, crossList := t.csu.crossList }

/-- What the end of a step may change beside the command's own effect: the all-red timer and the outputs, and in RUN the
SC's running state with the groups it moves and their service records; no plan slot and no other block. -/
def Settles (s t : State) : Prop :=
  t = { s with sc := t.sc, gs := t.gs, ru := t.ru, ob := t.ob, pu := t.pu, csu := t.csu, fru := t.fru }
    ∧ t.fru = { s.fru with allRed := t.fru.allRed } ∧ t.ru = { s.ru with groups := t.ru.groups }
    ∧ t.sc.slots = s.sc.slots ∧ t.sc.staging = s.sc.staging
    ∧ (s.fru.mode ≠ .run → t.sc = s.sc ∧ t.gs = s.gs ∧ t.ru = s.ru) ∧ OutputsFollow s t

/-- The mode after ALL_LOCKED has been judged on a mode: that mode, or what its FLASH makes of it (R135, R136). -/
def ModeJudged (t : State) (m : Mode) : Prop :=
  t.fru.mode = m ∨ (t.isLive .junction .allLocked = true ∧ t.fru.mode = Severity.flash.modeAfter m)

/-- What the lockout set's recomputation and the end of the step may change (R34 to R36, R136): the set is the defined
groups with a latched circuit entry of severity LOCKOUT, and only ALL_LOCKED's entry follows it. -/
def Relocked (s t : State) : Prop :=
  t = { s with sc := t.sc, gs := t.gs, ru := t.ru, ob := t.ob, pu := t.pu, csu := t.csu, fru := t.fru }
    ∧ t.fru.lockout = t.lockoutNow ∧ t.fru.startRequest = s.fru.startRequest ∧ ModeJudged t s.fru.mode
    ∧ (∀ k, k ≠ faultKey .junction .allLocked → tget? t.fru.table k = tget? s.fru.table k)
    ∧ t.ru.dets = s.ru.dets ∧ t.ru.active = s.ru.active ∧ t.sc.slots = s.sc.slots ∧ t.sc.staging = s.sc.staging
    ∧ OutputsFollow s t

/-- What a raise of one key may change: its entry, ALL_LOCKED, the lockout set and the mode, with what a change of mode
does at the SC, the GS, the RU and the contactor, and the outputs. -/
def AfterRaise (s t : State) (key : Nat) : Prop :=
  t = { s with sc := t.sc, gs := t.gs, ru := t.ru, ob := t.ob, pu := t.pu, csu := t.csu, fru := t.fru, spc := t.spc }
    ∧ t.spc = { s.spc with
        contactor := t.spc.contactor, drive := t.spc.drive, provingTimer := t.spc.provingTimer,
        lostSeen := t.spc.lostSeen }
    ∧ t.ru.dets = s.ru.dets ∧ t.ru.active = s.ru.active ∧ t.sc.slots = s.sc.slots ∧ t.sc.staging = s.sc.staging
    ∧ (∀ k, k ≠ key → k ≠ faultKey .junction .allLocked → tget? t.fru.table k = tget? s.fru.table k)
    ∧ t.fru.lockout = t.lockoutNow ∧ OutputsFollow s t

/-- A raise of a state fault rated by a row (R130, R135, R136): recorded unless its severity is IGNORE or it is live
already; a new entry is created live and latched now, a cleared one becomes live again with its first time kept; the mode
is the one the severity gives, and the contactor moves only with it to DARK. -/
def Raised (s t : State) (src : Source) (kind : FaultKind) (row : RowSel) (partner : Nat) : Prop :=
  let sev := s.dt.live.effective kind row
  AfterRaise s t (faultKey src kind)
    ∧ (sev = .ignore ∨ s.isLive src kind = true →
        t.entry? src kind = s.entry? src kind ∧ t.spc = s.spc ∧ ModeJudged t s.fru.mode)
    ∧ (sev ≠ .ignore → s.isLive src kind = false →
        t.entry? src kind = some ⟨true, true, ((s.entry? src kind).map (·.first)).getD s.uptime, s.uptime, row, sev, partner⟩
          ∧ (t.spc.contactor ≠ s.spc.contactor → t.fru.mode = .dark)
          ∧ ModeJudged t (sev.modeAfter s.fru.mode))

/-- A clear of one key: its entry is not live afterwards, every other entry stands, and only the queue's notices and ATTN
may change with it (R130, R168). -/
def AfterClear (s t : State) (src : Source) (kind : FaultKind) : Prop :=
  t.isLive src kind = false
    ∧ t = { s with fru := { s.fru with table := t.fru.table }
                   ru := { s.ru with queue := t.ru.queue, attn := t.ru.attn } }
    ∧ ∀ k, k ≠ faultKey src kind → tget? t.fru.table k = tget? s.fru.table k

/-- An image asked for (R172, R173): it waits behind the write in flight, or the next write starts with the lowest pending
image, as it stands. -/
def WriteAsked (s t : State) (image : Nat) : Prop :=
  (∀ f, s.stc.flight = some f → t.stc.flight = some f ∧ t.stc.markOf image ≠ .none)
    ∧ (s.stc.flight = none → ∃ f, t.stc.flight = some f ∧ f.elapsed = 0 ∧ f.image ≤ image
        ∧ (f.image = image ∨ t.stc.markOf image ≠ .none) ∧ f.copy = t.imageContent f.image)

/-- A table without ALL_LOCKED's entry. -/
def apartFromAllLocked (t : Table FaultEntry) : Table FaultEntry := t.filter fun e => e.1 ≠ faultKey .junction .allLocked

/-- A RESTART taken in DARK (R139, R142, R149): the latches at or above FLASH that are not live are deleted, and the start
request stands with the contactor ordered closed, or is cleared again while CONTACTOR_WELD is latched. -/
def StartsFromDark (s t : State) : Prop :=
  t = { s with sc := t.sc, gs := t.gs, ru := t.ru, ob := t.ob, pu := t.pu, csu := t.csu, fru := t.fru, spc := t.spc }
    ∧ t.fru.mode = .dark ∧ t.fru.autoAwaited = false
    ∧ apartFromAllLocked t.fru.table = (apartFromAllLocked s.fru.table).filter (fun e => e.2.live || !e.2.sev.ge .flash)
    ∧ (s.spc.contactor ≠ .opened → t.spc = s.spc ∧ t.fru.startRequest = true)
    ∧ (s.spc.contactor = .opened → t.weldLatched = false →
        t.spc = { s.spc with contactor := .closing, drive := true, provingTimer := 0, provingRun := 0 }
          ∧ t.fru.startRequest = true)
    ∧ (s.spc.contactor = .opened → t.weldLatched = true → t.spc = s.spc ∧ t.fru.startRequest = false)
    ∧ (s.LockoutFollows → t.sc = s.sc ∧ t.gs = s.gs ∧ t.ru = s.ru ∧ t.fru = { s.fru with
        table := s.fru.table.filter fun e => e.2.live || !e.2.sev.ge .flash
        autoAwaited := false, startRequest := t.fru.startRequest, allRed := t.fru.allRed })
    ∧ OutputsFollow s t

/-- The open order at the contactor (R149, R151). -/
def OpenOrdered (p q : Supply) : Prop :=
  (p.contactor = .closing ∨ p.contactor = .closed →
      q = { p with contactor := .opening, drive := false, provingTimer := 0, lostSeen := false })
    ∧ (p.contactor = .opened ∨ p.contactor = .opening → q = p)

/-- The all-red timer after a mode m is asked for (R36, R140): none in every mode entered but CLEARING; at the entry to
CLEARING it starts at 0 exactly where every group is at rest then, and is none otherwise; in CLEARING already it stands once
started. -/
def AllRedAt (s t : State) (m : Mode) : Prop :=
  (m ≠ .clearing → t.fru.allRed = if s.fru.mode = m then s.fru.allRed else none)
    ∧ (m = .clearing → s.fru.mode ≠ .clearing ∨ s.fru.allRed = none →
        (t.AllRest → t.fru.allRed = some 0) ∧ (¬ t.AllRest → t.fru.allRed = none))
    ∧ (m = .clearing → s.fru.mode = .clearing → s.fru.allRed ≠ none → t.fru.allRed = s.fru.allRed)

/-- A detector that demands group g is substituted (R74). -/
def SubstituteDemands (s : State) (g : Nat) : Prop :=
  ∃ x ∈ s.du.dets, ∃ rec, s.detectorRec? x.1 = some rec ∧ inSet rec.demandSet g = true
    ∧ (s.isLive (.detector x.1) .detStuckOn = true ∨ s.isLive (.detector x.1) .detStuckOff = true)

/-- The demand of a defined group at its green end: recall and a substituted detector add theirs (R53, R54, R74). -/
def DemandAtEnd (s t : State) (g : Nat) (rec : GroupRec) : Prop :=
  let o := (tget? s.sc.demand g).getD ⟨false, false, false⟩
  let o' := (tget? t.sc.demand g).getD ⟨false, false, false⟩
  o'.link = o.link ∧ o'.recalls = (o.recalls || rec.recalls)
    ∧ (o'.detector = true ↔ o.detector = true ∨ SubstituteDemands s g)

/-- A change to mode m, not RUN, at the SC (R50, R54, R55, R58, R59, R61, R63): an exit from RUN clears the running state and
every extension timer; at an entry to DARK, START_FLASH, FLASH or SUPPLY_WAIT a pending plan becomes current; a green that
the entry ends has its extension timer 0 and the demand of its end; all else stands, and where the mode is m already the
whole SC. -/
def ScMoves (s t : State) (m : Mode) : Prop :=
  let cut (g : Nat) : Prop := m ≠ .startRed ∧ s.isGreen g = true ∧ t.isGreen g = false
  let c : Stages := if s.fru.mode = .run then { s.sc with
      stage := none, established := false, elapsed := 0, clock := 0, delta := 0, allowance := 0, hold := 0, forced := none
      owed := false, arrivals := [] } else s.sc
  (s.fru.mode = m → t.sc = s.sc)
    ∧ (s.fru.mode ≠ m →
      t.sc = { c with
        current := if m ∈ [.dark, .startFlash, .flash, .supplyWait] then s.sc.pending.or s.sc.current else s.sc.current
        pending := if m ∈ [.dark, .startFlash, .flash, .supplyWait] then none else s.sc.pending
        demand := t.sc.demand
        ext := t.sc.ext }
      ∧ (∀ g, tget? s.sc.ext g = none → tget? t.sc.ext g = none)
      ∧ ∀ g,
        (∀ x, tget? s.sc.ext g = some x →
          (s.fru.mode = .run ∨ cut g → tget? t.sc.ext g = some { x with timer := 0 })
          ∧ (s.fru.mode ≠ .run → ¬ cut g → tget? t.sc.ext g = some x))
        ∧ (∀ rec, s.groupRec? g = some rec → cut g → DemandAtEnd s t g rec)
        ∧ (s.groupRec? g = none ∨ ¬ cut g → tget? t.sc.demand g = tget? s.sc.demand g))

/-- A group at the entry to mode m, not RUN (R36 to R39): in CLEARING a GREEN ends as by a stage change and a RED_AMBER in RED;
in the other modes every group is at rest, a GREEN stamped now; at START_RED each is stamped. -/
def EntersMode (now : Nat) (m : Mode) (kind : GroupKind) (r q : GroupRun) : Prop :=
  let rest : GroupRun := if r.aspect = kind.rest then r else { r with aspect := kind.rest, timer := 0, halves := 0 }
  q = { (match m, r.aspect with
      | .clearing, .green => { r with
          aspect := match kind with | .vehicle => .amber | .arrow => .dark | .pedestrian => .clearance
          timer := 0, halves := 0, greenEnd := now }
      | .clearing, .redAmber => { r with aspect := .red, timer := 0, halves := 0 }
      | .clearing, _ => r
      | .startRed, _ => { rest with greenEnd := now }
      | _, .green => { rest with greenEnd := now }
      | _, _ => rest) with inTarget := false }

/-- A change to mode m, not RUN, at the GS (R22, R36 to R39): nothing where the mode is m already or m shares its regime of
flash or of all off; else no stage is requested, each group enters m as EntersMode says, and an entry to the flash pattern
starts with its lit half. -/
def GsMoves (s t : State) (m : Mode) : Prop :=
  let stands : Prop := s.fru.mode = m ∨ (m.regime ≠ .aspect ∧ m.regime = s.fru.mode.regime)
  (stands → t.gs = s.gs)
    ∧ (¬ stands →
      t.gs = { s.gs with
        groups := t.gs.groups, requested := none, reportOwed := false
        flashTimer := if m.regime = .flashPattern then 0 else s.gs.flashTimer
        flashLit := if m.regime = .flashPattern then true else s.gs.flashLit }
      ∧ tkeys t.gs.groups = tkeys s.gs.groups
      ∧ ∀ g r, tget? s.gs.groups g = some r →
          ∃ q, tget? t.gs.groups g = some q ∧ EntersMode s.uptime m (s.kindOf g) r q)

/-- A change to mode m at the notice queue (R167): the MODE notice queued takes m and keeps its place and time; with none it
is added at the back, or the overflow mark set where the queue holds 48. -/
def ModeNoticed (s t : State) (m : Mode) : Prop :=
  t.ru = { s.ru with groups := t.ru.groups, queue := t.ru.queue, overflow := t.ru.overflow, attn := t.ru.attn }
    ∧ (s.fru.mode = m → t.ru.queue = s.ru.queue ∧ t.ru.overflow = s.ru.overflow)
    ∧ (s.fru.mode ≠ m →
      ((∃ time old, .mode time old ∈ s.ru.queue) →
        t.ru.overflow = s.ru.overflow ∧ t.ru.queue = s.ru.queue.map fun
          | .fault key first partner cleared repeated => .fault key first partner cleared repeated
          | .mode time _ => .mode time m)
      ∧ ((∀ time old, .mode time old ∉ s.ru.queue) →
        (s.ru.queue.length < 48 → t.ru.queue = s.ru.queue ++ [.mode s.uptime m] ∧ t.ru.overflow = s.ru.overflow)
        ∧ (48 ≤ s.ru.queue.length → t.ru.queue = s.ru.queue ∧ t.ru.overflow = true)))

/-- What a change of mode to m changes: the SC and the GS as ScMoves and GsMoves say (the entry to RUN has its own rules:
R51, R63), the MODE notice, the service records of the greens it ends, the all-red timer and the outputs, the mode timer, 0
at START_FLASH and START_RED, and the contactor at DARK alone; no fault entry, no lockout, and nothing else. -/
def ModeMoves (s t : State) (m : Mode) : Prop :=
  t = { s with sc := t.sc, gs := t.gs, ru := t.ru, ob := t.ob, pu := t.pu, csu := t.csu, fru := t.fru, spc := t.spc }
    ∧ t.fru = { s.fru with
        mode := m, allRed := t.fru.allRed, autoAwaited := t.fru.autoAwaited, startRequest := t.fru.startRequest
        modeTimer := if s.fru.mode ≠ m ∧ (m = .startFlash ∨ m = .startRed) then 0 else s.fru.modeTimer }
    ∧ (m ≠ .dark → t.fru.startRequest = s.fru.startRequest) ∧ ModeNoticed s t m
    ∧ t.sc.slots = s.sc.slots ∧ t.sc.staging = s.sc.staging ∧ (m ≠ .run → ScMoves s t m ∧ GsMoves s t m)
    ∧ (m ≠ .dark → t.spc = s.spc) ∧ AllRedAt s t m ∧ OutputsFollow s t

/-- A group in GREEN has gapped out: its extending presence is not asserted and its extension timer is 0 (R55). -/
def GappedOut (s : State) (g : Nat) : Prop :=
  s.aspect? g = some .green ∧ ∀ x, tget? s.sc.ext g = some x → x.presence = false ∧ x.timer = 0

/-- A stage has demand: its green set holds a group not locked out, and it has the always flag or a demanded group not locked
out (R56). -/
def HasDemand (s : State) (st : Stage) : Prop :=
  (∃ g, inSet st.green g = true ∧ g ∉ s.fru.lockout)
    ∧ (st.always = true ∨ ∃ g, inSet st.green g = true ∧ g ∉ s.fru.lockout ∧ tget? s.sc.demand g ≠ none)

/-- Stage n is the next after stage k: the first in the cyclic order k+1, k+2, …, k−1 that has demand (R57). -/
def IsNext (s : State) (p : Plan) (k n : Nat) : Prop :=
  ∃ i, i + 1 < p.stages.length ∧ n = (k + i) % p.stages.length + 1 ∧ (∃ st, p.stage? n = some st ∧ HasDemand s st)
    ∧ ∀ j st, j < i → p.stage? ((k + j) % p.stages.length + 1) = some st → ¬ HasDemand s st

/-- A group that conflicts with group j is in GREEN or RED_AMBER, so that T_j is not defined (R31). -/
def BlockedBy (s : State) (j : Nat) : Prop :=
  ∃ i v, Rival s.dt.live j i v ∧ (s.aspect? i = some .green ∨ s.aspect? i = some .redAmber)

/-- T is the earliest green start of group j: the largest commanded green end time of i plus I(i→j) over the groups i that
conflict with j (R31). -/
def EarliestStart (s : State) (j T : Nat) : Prop :=
  (∃ i v r, Rival s.dt.live j i v ∧ tget? s.gs.groups i = some r ∧ T = r.greenEnd + v)
    ∧ ∀ i v r, Rival s.dt.live j i v → tget? s.gs.groups i = some r → r.greenEnd + v ≤ T

/-- The events that bring an SC decision in an ACTUATED stage, each with its own condition (R55, R56, R58, R59). -/
def DecisionDue (s : State) (cur : Stage) : Instr → Prop
  | .gapOut g => GappedOut s g
  | .stageMinReached => s.dt.live.stageMin cur ≤ s.sc.elapsed
  | .stageMaxReached => s.dt.live.boundedMax cur ≤ s.sc.elapsed
  | .stageEndDecision => s.sc.established = true ∧ s.sc.hold = 0 ∧ s.dt.live.stageMin cur ≤ s.sc.elapsed
  | .holdExpired => s.sc.hold = 0
  | .forcedStageRequest => s.sc.forced.isSome = true
  | _ => False

/-- The six events that bring an SC decision. -/
def IsDecision : Instr → Prop
  | .gapOut _ | .stageMinReached | .stageMaxReached | .stageEndDecision | .holdExpired | .forcedStageRequest => True
  | _ => False

/-- (b) of R56: the bounded stage max is reached, or every group of the stage is locked out or has gapped out. -/
def Spent (s : State) (cur : Stage) : Prop :=
  s.dt.live.boundedMax cur ≤ s.sc.elapsed
    ∨ ∀ g, inSet cur.green g = true → g ∈ s.fru.lockout ∨ GappedOut s g

/-- The requests of the host, each a row of its own (section 11.5). -/
def IsRequest : Instr → Prop
  | .ident | .status | .groupRead _ | .circuitRead _ _ | .cableRead _ _ _ | .detectorRead _ | .faultReadEntries _ _ _ _
  | .faultReadRows _ _ _ _ | .recordRead _ _ _ | .storeStatus | .noticeFetch _ | .latchClear _ _ _ | .demand _ | .hold _
  | .release | .forceStage _ | .planSelect _ | .sync _ _ | .modeRequestDark | .modeRequestFlash | .modeRequestRestart
  | .softReset | .learn _ | .learnCancel _ | .cableTestLeak _ | .cableTestCross _ | .substitute _ _ | .defClear
  | .defRecord _ | .defCommit _ | .planRecord _ | .planCommit _ _ | .planErase _ | .recordControl _ _ _ _ _ _ => True
  | _ => False

/-- The store load finds an image's content whole in its area, with the CRC-32 stored after it (R176, R177). -/
def FindsWhole (s : State) (failing : List Nat) (image : Nat) (x : ImageContent) : Prop :=
  image ∉ failing ∧ ∃ a, tget? s.stc.areas image = some a ∧ a.torn = [] ∧ a.content = some x ∧ a.crc = x.crc

/-- The store load finds nothing in an image's area that passes its CRC (R177). -/
def FindsNothing (s : State) (failing : List Nat) (image : Nat) : Prop :=
  ∃ a, tget? s.stc.areas image = some a
    ∧ (image ∈ failing ∨ (a.torn = [] ∧ ∀ x, a.content = some x → a.crc ≠ x.crc))

/-- Every group at its rest aspect. -/
def AtRest (t : State) : Prop :=
  ∀ g rec r, t.groupRec? g = some rec → tget? t.gs.groups g = some r → r.aspect = rec.kind.rest

/-- A RESTART taken in FLASH (R39, R142): the latches at or above FLASH that are not live are deleted, and the mode is
START_RED with every group at rest and stamped; where the lockout set follows the table, nothing else is changed but by that
entry. -/
def RestartsFromFlash (s t : State) : Prop :=
  t = { s with sc := t.sc, gs := t.gs, ru := t.ru, ob := t.ob, pu := t.pu, csu := t.csu, fru := t.fru }
    ∧ t.fru.mode = .startRed ∧ t.fru.modeTimer = 0 ∧ t.fru.autoAwaited = false ∧ t.fru.allRed = none
    ∧ t.fru.startRequest = s.fru.startRequest ∧ t.fru.lockout = t.lockoutNow
    ∧ apartFromAllLocked t.fru.table = (apartFromAllLocked s.fru.table).filter (fun e => e.2.live || !e.2.sev.ge .flash)
    ∧ t.sc.slots = s.sc.slots ∧ t.sc.staging = s.sc.staging ∧ t.ru.dets = s.ru.dets ∧ t.ru.active = s.ru.active
    ∧ AtRest t ∧ (∀ g r, tget? t.gs.groups g = some r → r.greenEnd = s.uptime ∧ r.inTarget = false)
    ∧ (s.LockoutFollows → ModeMoves { s with fru := { s.fru with
        table := s.fru.table.filter fun e => e.2.live || !e.2.sev.ge .flash } } t .startRed)
    ∧ OutputsFollow s t

/-- A command that closes the half-cycle with these measurements: an accepted crossing, or a timed close that is due
(R144; before the first close after a hard reset as after a close: logs 9 and 51). -/
def ClosesWith (s : State) (c : Instr) (m : Measures) : Prop :=
  (∃ e, c = .zeroCrossingClose e m ∧ s.period ≤ 2 * e)
    ∨ ∃ e, c = .timedClose e m ∧ if s.ob.timedRunning then s.period ≤ e else 5 * s.period ≤ 4 * e

/-- A defined circuit and the one channel it is mapped to, which is mapped to it alone (R18). -/
def Wired (s : State) (c : Nat) (rec : CircuitRec) : Prop :=
  s.circuitRec? c = some rec ∧ ∀ ch, s.dt.live.mapped? ch = some c ↔ ch = rec.channel

/-- The current a channel delivers in a half-cycle, at most 4095 mA (R153); 0 where the measurements hold none (log 27). -/
def delivered (m : Measures) (ch : Nat) : Nat := min (m.currents.getD (ch - 1) 0) 4095

/-- A circuit's channel went from OFF to ON. -/
def SwitchesOn (s t : State) (c : Nat) : Prop :=
  ∃ ch x y, s.dt.live.mapped? ch = some c ∧ tget? s.ob.channels ch = some x ∧ tget? t.ob.channels ch = some y
    ∧ x.state = false ∧ y.state = true

/-- Two groups of a pair are shown green. -/
def BothShown (t : State) (key : Nat) : Prop :=
  (∃ q, tget? t.cm.groups (key / 256) = some q ∧ q.shown = true)
    ∧ ∃ q, tget? t.cm.groups (key % 256) = some q ∧ q.shown = true

/-- A group stands, at the end of a step, as the command left its record: in RUN with an ACTUATED plan a decision at the
same instant may retarget it, and end it by stage change if it is a GREEN whose min green has elapsed (R28, R29). -/
def GroupStands (s t : State) (g : Nat) (x : GroupRun) : Prop :=
  ∃ y, tget? t.gs.groups g = some y ∧ (s.running? .actuated = none → y = x)
    ∧ ((∃ b, y = { x with inTarget := b })
      ∨ (x.aspect = .green ∧ x.minElapsed = true ∧ y = { x with
          aspect := match s.kindOf g with | .vehicle => .amber | .arrow => .dark | .pedestrian => .clearance
          timer := 0, halves := 0, greenEnd := s.uptime, inTarget := false }))

/-- Every channel commanded OFF. -/
def AllOff (t : State) : Prop := ∀ e ∈ t.ob.channels, e.2.command = false

/-- c is the first number that meets p, looked for from a cursor upward through a top and then from 1 (R109, R115). -/
def FirstInRound (cursor top : Nat) (p : Nat → Prop) (c : Nat) : Prop :=
  1 ≤ c ∧ c ≤ top ∧ p c
    ∧ ((cursor ≤ c ∧ ∀ k, 1 ≤ k → cursor ≤ k → k < c → ¬ p k)
      ∨ (c < cursor ∧ (∀ k, cursor ≤ k → k ≤ top → ¬ p k) ∧ ∀ k, 1 ≤ k → k < c → ¬ p k))

/-- One level's streaks after a result (R111). -/
def LevelTakes (r q : LevelRun) (level result : Nat) : Prop :=
  q.raised = r.raised
    ∧ (level ≤ result → q.above = min 3 (r.above + 1) ∧ q.below = 0)
    ∧ (result < level → 5 * result < 4 * level → q.above = 0 ∧ q.below = min 5 (r.below + 1))
    ∧ (result < level → 4 * level ≤ 5 * result → q.above = 0 ∧ q.below = 0)

/-- A circuit's channel is OFF, its manner STEADY and its dark age at least 2 (R104). -/
def DarkSettled (s : State) (c : Nat) : Prop :=
  s.circuitIsOn c = false ∧ s.isFlashing c = false ∧ ∃ d, tget? s.csu.dark c = some d ∧ 2 ≤ d.age

/-- A circuit is defined on a cable. -/
def OnCable (s : State) (c cable : Nat) : Prop := ∃ e ∈ s.dt.live.circuits, e.1 = c ∧ e.2.cable = cable

/-- A circuit is eligible as a source: defined, with cross_test, dark-settled, and another circuit of its cable dark-settled
(R115). -/
def Eligible (s : State) (c : Nat) : Prop :=
  ∃ rec, s.circuitRec? c = some rec ∧ rec.crossTest = true ∧ DarkSettled s c
    ∧ ∃ o, o ≠ c ∧ OnCable s o rec.cable ∧ DarkSettled s o

/-- A pattern test of a source as it starts: 64 drawn bits, and for sensors the other dark-settled circuits of the source's
cable, each with nothing counted and no excluded mark (R114, R116). -/
def TestStarts (s : State) (c : Nat) (p : PatternTest) : Prop :=
  p.source = c ∧ p.index = 0 ∧ p.draw.length = 64 ∧ (∀ x ∈ p.sensors, x.count = 0 ∧ x.excluded = false)
    ∧ ∀ rec, s.circuitRec? c = some rec →
        ∀ o, (∃ x ∈ p.sensors, x.circuit = o) ↔ o ≠ c ∧ OnCable s o rec.cable ∧ DarkSettled s o

/-- Every group's extending presence after a change of a detector: asserted while a detector that names the group in its
extend set is in presence or substituted; the timer of a group in GREEN is held at the unit extension by a presence, stands
without one, and is 0 at a green end (R55, R70, R74). -/
def ExtensionFollows (s t : State) : Prop :=
  ∀ g e, tget? s.sc.ext g = some e → ∃ e', tget? t.sc.ext g = some e'
    ∧ (e'.presence = true ↔ ∃ x ∈ t.du.dets, ∃ rec, t.detectorRec? x.1 = some rec ∧ inSet rec.extendSet g = true
        ∧ (x.2.level = true ∨ t.isLive (.detector x.1) .detStuckOn = true
          ∨ t.isLive (.detector x.1) .detStuckOff = true))
    ∧ (s.isGreen g = false → e'.timer = e.timer)
    ∧ (s.isGreen g = true → t.isGreen g = false → e'.timer = 0)
    ∧ (s.isGreen g = true → t.isGreen g = true →
        (e'.presence = false → e'.timer = e.timer)
          ∧ (e'.presence = true → ∀ rec, s.groupRec? g = some rec → e'.timer = rec.unitExt))

/-- A value lies in a range. -/
def Between (lo hi v : Nat) : Prop := lo ≤ v ∧ v ≤ hi

/-- A value is the default marker or lies in a range (R3). -/
def BetweenOr (marker lo hi v : Nat) : Prop := v = marker ∨ Between lo hi v

/-- Every check of a list holds. -/
def AllHold : List (Nat × Prop) → Prop
  | [] => True
  | (_, p) :: rest => p ∧ AllHold rest

/-- The first check of a list that does not hold is one of the field at an offset. -/
def FirstFails : List (Nat × Prop) → Nat → Prop
  | [], _ => False
  | (off, p) :: rest, o => (¬ p ∧ o = off) ∨ (p ∧ FirstFails rest o)

/-- The field checks of a record body by its kind code, in the order R3 makes them: the ranges of R4 to R10 in layout order,
then the cross-field checks. -/
def recordChecks (b : List Byte) : Nat → List (Nat × Prop)
  | 1 => [(1, field b 1 1 = 0), (2, Between 100 250 (field b 2 2)), (4, field b 4 1 ≤ 1),
      (5, BetweenOr 65535 50 600 (field b 5 2)), (7, BetweenOr 255 30 100 (field b 7 1)),
      (8, BetweenOr 255 30 100 (field b 8 1)), (9, BetweenOr 255 3 50 (field b 9 1)),
      (10, BetweenOr 255 2 50 (field b 10 1)), (11, BetweenOr 255 1 60 (field b 11 1)),
      (12, BetweenOr 65535 5 600 (field b 12 2)), (14, field b 14 2 = 0 ∨ Between 100 6000 (field b 14 2)),
      (16, Between 1 8 (field b 16 1))]
  | 2 => [(1, Between 1 32 (field b 1 1)), (2, field b 2 1 ≤ 2), (3, Between 40 300 (field b 3 2)),
      (5, if field b 2 1 = 0 then Between 30 50 (field b 5 1) else field b 5 1 = 0),
      (6, if field b 2 1 = 0 then Between 0 20 (field b 6 1) else field b 6 1 = 0),
      (7, if field b 2 1 = 2 then Between 40 300 (field b 7 2) else field b 7 2 = 0),
      (9, Between 0 100 (field b 9 1)), (10, field b 10 1 ≤ 1)]
  | 3 => [(1, Between 1 96 (field b 1 1)), (2, Between 1 32 (field b 2 1)), (3, field b 3 1 ≤ 2),
      (4, Between 1 104 (field b 4 1)), (5, Between 1 16 (field b 5 1)), (6, field b 6 1 ≤ 1),
      (7, Between 1 4 (field b 7 1)), (8, Between 20 1000 (field b 8 2)), (10, BetweenOr 255 5 200 (field b 10 1)),
      (11, field b 11 1 ≤ 1), (12, field b 12 1 ≤ 1), (11, ¬ (field b 11 1 = 1 ∧ field b 6 1 = 1))]
  | 4 => [(1, Between 1 16 (field b 1 1)), (2, BetweenOr 255 3 100 (field b 2 1)),
      (3, BetweenOr 65535 5 300 (field b 3 2)),
      (3, (if field b 2 1 = 255 then 10 else field b 2 1) < if field b 3 2 = 65535 then 30 else field b 3 2)]
  | 5 => [(1, Between 1 24 (field b 1 1)), (2, field b 2 1 ≤ 2), (3, BetweenOr 255 10 100 (field b 3 1)),
      (12, BetweenOr 255 0 60 (field b 12 1)), (13, Between 0 24 (field b 13 1)), (14, field b 14 1 ≤ 1),
      (15, Between 1 600 (field b 15 2))]
  | 6 => [(1, Between 1 32 (field b 1 1) ∧ field b 1 1 < field b 2 1), (2, Between 1 32 (field b 2 1)),
      (3, Between 10 600 (field b 3 2)), (5, Between 10 600 (field b 5 2))]
  | 7 => [(1, Between 1 25 (field b 1 1)),
      (2, (field b 1 1 ≤ 5 → Between 1 5 (field b 2 1)) ∧ (field b 1 1 = 6 → Between 6 7 (field b 2 1))
        ∧ (7 ≤ field b 1 1 → field b 2 1 = 0)),
      (3, field b 3 1 ≤ 5)]
  | _ => []

/-- The first entry of a table, in its order, that is bad. -/
def FirstBad {α : Type} (t : Table α) (bad : Nat → α → Prop) (k : Nat) : Prop :=
  ∃ before v after, t = before ++ (k, v) :: after ∧ bad k v ∧ ∀ e ∈ before, ¬ bad e.1 e.2

/-- A kind of group has circuits of a role (R13). -/
def HasRole : GroupKind → Role → Prop
  | .vehicle, _ => True
  | .arrow, role => role = .green
  | .pedestrian, role => role = .red ∨ role = .green

/-- Check 2 of R13 at a group: it lacks a circuit of a role its kind requires, or has more than one. -/
def BadGroup (d : DefSet) (g : Nat) (rec : GroupRec) : Prop :=
  ∃ role, HasRole rec.kind role ∧ (d.circuits.filter fun e => e.2.group = g ∧ e.2.role = role).length ≠ 1

/-- Check 2 of R13 at a circuit: its group is not defined, or its group's kind does not allow its role. -/
def BadCircuit (d : DefSet) (_ : Nat) (rec : CircuitRec) : Prop :=
  ∀ g, tget? d.groups rec.group = some g → ¬ HasRole g.kind rec.role

/-- Check 3 of R13 at a circuit: a circuit of lower number names its channel. -/
def SharesChannel (d : DefSet) (c : Nat) (rec : CircuitRec) : Prop :=
  ∃ e ∈ d.circuits, e.1 < c ∧ e.2.channel = rec.channel

/-- Check 4 of R13 at a cable: it is named and not defined, or named by more than 24 circuits. -/
def BadCable (d : DefSet) (c : Nat) : Prop :=
  let named := (d.circuits.filter fun e => e.2.cable = c).length
  0 < named ∧ (tget? d.cables c = none ∨ 24 < named)

/-- Check 5 of R13 at a conflict record: a group not defined, or an intergreen below max(ending + RA, 10). -/
def BadConflict (d : DefSet) (key : Nat) (rec : ConflictRec) : Prop :=
  ∀ i j, tget? d.groups (key / 256) = some i → tget? d.groups (key % 256) = some j →
    rec.ij < max (i.ending + j.ra) 10 ∨ rec.ji < max (j.ending + i.ra) 10

/-- Check 6 of R13 at a detector: a set names a group not defined. -/
def BadDetector (d : DefSet) (_ : Nat) (rec : DetectorRec) : Prop :=
  ∃ g, (inSet rec.demandSet g = true ∨ inSet rec.extendSet g = true) ∧ tget? d.groups g = none

/-- A check of R13 that a definition fails, with the key reported: its record kind and two bytes (section 11.7; log 11 for
the order within check 2). -/
def CheckFails (d : DefSet) (key : Nat × Nat × Nat) : Nat → Prop
  | 1 => d.junction = none ∧ key = (1, 0, 0)
  | 2 => (d.groups = [] ∧ key = (1, 0, 0))
      ∨ (∃ g, FirstBad d.groups (BadGroup d) g ∧ key = (2, g, 0))
      ∨ (d.groups ≠ [] ∧ (∀ e ∈ d.groups, ¬ BadGroup d e.1 e.2)
          ∧ ∃ c, FirstBad d.circuits (BadCircuit d) c ∧ key = (3, c, 0))
  | 3 => ∃ c, FirstBad d.circuits (SharesChannel d) c ∧ key = (3, c, 0)
  | 4 => ∃ c, 1 ≤ c ∧ c ≤ 16 ∧ BadCable d c ∧ (∀ k, 1 ≤ k → k < c → ¬ BadCable d k) ∧ key = (4, c, 0)
  | 5 => ∃ k, FirstBad d.conflicts (BadConflict d) k ∧ key = (6, k / 256, k % 256)
  | 6 => ∃ n, FirstBad d.detectors (BadDetector d) n ∧ key = (5, n, 0)
  | _ => False

/-- The field checks of stage k of a plan body, in layout order (R44). -/
def stageFieldChecks (b : List Byte) (k : Nat) : List (Nat × Prop) :=
  let o := 4 + 9 * (k - 1)
  [(o, field b o 4 ≠ 0),
    (o + 4, if field b 0 1 = 0 then field b (o + 4) 1 = 0 else field b (o + 4) 1 ≤ 1),
    (o + 5, if field b 0 1 = 0 then field b (o + 5) 2 = 0 else Between 100 65535 (field b (o + 5) 2)),
    (o + 7, if field b 0 1 = 0 ∧ k ≠ 1 then
        field b (o - 2) 2 < field b (o + 7) 2 ∧ field b (o + 7) 2 < field b 2 2
      else field b (o + 7) 2 = 0)]

/-- The checks of a plan body of a right length, in the order R44 makes them. -/
def planChecks (b : List Byte) : List (Nat × Prop) :=
  [(0, field b 0 1 ≤ 1), (2, if field b 0 1 = 0 then Between 300 2400 (field b 2 2) else field b 2 2 = 0)]
    ++ (List.range (field b 1 1)).flatMap fun i => stageFieldChecks b (i + 1)

/-- Stage k of a plan fails a check of R46: an undefined group; two groups that conflict; in a FIXED plan, a span below its
stage min with the largest intergreen of the change into it. -/
def PlanFails (d : DefSet) (p : Plan) (k : Nat) : Nat → Prop
  | 1 => ∃ st g, p.stage? k = some st ∧ inSet st.green g = true ∧ tget? d.groups g = none
  | 2 => ∃ st i j, p.stage? k = some st ∧ inSet st.green i = true ∧ inSet st.green j = true ∧ d.intergreen? i j ≠ none
  | 3 => p.mode = .fixed ∧ ∃ st prev m v, p.stage? k = some st
      ∧ (if k = 1 then p.stages.getLast? else p.stage? (k - 1)) = some prev
      ∧ (m = 0 ∨ ∃ e ∈ d.groups, inSet st.green e.1 = true ∧ m = e.2.minGreen)
      ∧ (v = 0 ∨ ∃ i j, inSet prev.green i = true ∧ inSet st.green i = false ∧ inSet st.green j = true
          ∧ inSet prev.green j = false ∧ d.intergreen? i j = some v)
      ∧ (match p.stage? (k + 1) with | some n => n.change | none => p.cycle) - st.change < m + v
  | _ => False

/-- The Supply Controller's runs from one close to the next, by the condition q has for it: the band and normal runs in every
contactor state (R147), the lost and return runs while CLOSED (R148), the proving run in CLOSING before 300 ms (R150), the
first LOST close in OPENING before 300 ms (R151), the live-bus and dead-bus runs in OPEN (R150, R151), and the first four
crossing closes made in a row while CLOSED, with their time (R146). The two flags stand. -/
def RunsMove (p q : Supply) (crossing : Bool) (e : Nat) : Prop :=
  (q.condition = .low ∨ q.condition = .high → q.bandRun = min 240 (p.bandRun + 1) ∧ q.normalRun = 0)
    ∧ (q.condition = .normal → q.bandRun = 0 ∧ q.normalRun = min 240 (p.normalRun + 1))
    ∧ (q.condition = .lost → q.bandRun = p.bandRun ∧ q.normalRun = 0)
    ∧ (p.contactor = .closed → q.lostRun = (if q.condition = .lost then min 5 (p.lostRun + 1) else 0)
      ∧ (p.lossStanding = true → q.returnRun = if q.condition = .normal then min 240 (p.returnRun + 1) else 0)
      ∧ (p.lossStanding = false → q.returnRun = p.returnRun))
    ∧ (p.contactor ≠ .closed → q.lostRun = p.lostRun ∧ q.returnRun = p.returnRun)
    ∧ (p.contactor = .closing → p.provingTimer < 300 →
        q.provingRun = if q.condition = .normal then min 4 (p.provingRun + 1) else 0)
    ∧ (p.contactor ≠ .closing ∨ 300 ≤ p.provingTimer → q.provingRun = p.provingRun)
    ∧ (p.contactor = .opening →
        (q.lostSeen = true ↔ p.lostSeen = true ∨ (q.condition = .lost ∧ p.provingTimer < 300)))
    ∧ (p.contactor = .opened →
        (q.condition = .lost → q.liveRun = 0 ∧ q.deadRun = min 36 (p.deadRun + 1))
        ∧ (q.condition ≠ .lost → q.liveRun = min 36 (p.liveRun + 1) ∧ q.deadRun = 0))
    ∧ (p.contactor ≠ .opened → q.liveRun = p.liveRun ∧ q.deadRun = p.deadRun)
    ∧ (p.frequency ≠ none ∨ 4 ≤ p.freqCount → q.freqCount = p.freqCount ∧ q.freqTime = p.freqTime)
    ∧ (p.frequency = none → p.freqCount < 4 →
        (crossing = true → p.contactor = .closed → q.freqCount = p.freqCount + 1 ∧ q.freqTime = p.freqTime + e)
        ∧ (crossing = false ∨ p.contactor ≠ .closed → q.freqCount = 0 ∧ q.freqTime = 0))
    ∧ q.bandRaised = p.bandRaised ∧ q.lossStanding = p.lossStanding

/-- A row of the severity table: its kind, selector, default, floor and maximum (R133). -/
abbrev SeverityRow : Type := FaultKind × RowSel × Severity × Severity × Severity

/-- The rows of LAMP_PARTIAL (R133). -/
def lampPartialRows : List SeverityRow :=
  [(.lampPartial, .vRed, .alarm, .alarm, .dark), (.lampPartial, .vAmber, .alarm, .ignore, .dark),
   (.lampPartial, .vGreen, .alarm, .ignore, .dark), (.lampPartial, .pRed, .alarm, .alarm, .dark),
   (.lampPartial, .pGreen, .alarm, .ignore, .dark)]

/-- The rows of LAMP_OUT (R133). -/
def lampOutRows : List SeverityRow :=
  [(.lampOut, .vRed, .flash, .flash, .dark), (.lampOut, .vAmber, .alarm, .alarm, .dark),
   (.lampOut, .vGreen, .lockout, .alarm, .dark), (.lampOut, .pRed, .lockout, .lockout, .dark),
   (.lampOut, .pGreen, .lockout, .alarm, .dark)]

/-- The rows of LAMP_OVER (R133). -/
def lampOverRows : List SeverityRow :=
  [(.lampOver, .vRed, .alarm, .ignore, .dark), (.lampOver, .vAmber, .alarm, .ignore, .dark),
   (.lampOver, .vGreen, .alarm, .ignore, .dark), (.lampOver, .pRed, .alarm, .ignore, .dark),
   (.lampOver, .pGreen, .alarm, .ignore, .dark)]

/-- The rows of OFF_CURRENT (R133). -/
def offCurrentRows : List SeverityRow :=
  [(.offCurrent, .vRed, .alarm, .alarm, .dark), (.offCurrent, .vAmber, .alarm, .alarm, .dark),
   (.offCurrent, .vGreen, .flashNow, .flashNow, .dark), (.offCurrent, .pRed, .alarm, .alarm, .dark),
   (.offCurrent, .pGreen, .flashNow, .flashNow, .dark)]

/-- The rows of CABLE_OPEN (R133). -/
def cableOpenRows : List SeverityRow :=
  [(.cableOpen, .vRed, .flash, .flash, .dark), (.cableOpen, .vAmber, .alarm, .alarm, .dark),
   (.cableOpen, .vGreen, .lockout, .alarm, .dark), (.cableOpen, .pRed, .lockout, .lockout, .dark),
   (.cableOpen, .pGreen, .lockout, .alarm, .dark)]

/-- The rows of the other configurable kinds (R133). -/
def otherRows : List SeverityRow :=
  [(.cableCross, .greenInvolved, .flashNow, .flashNow, .dark), (.cableCross, .other, .flash, .alarm, .dark),
   (.intermittent, .none, .alarm, .ignore, .alarm), (.learnRejected, .none, .alarm, .ignore, .alarm),
   (.leakWarn, .none, .alarm, .ignore, .alarm), (.leakFault, .none, .alarm, .alarm, .flash),
   (.detStuckOn, .none, .alarm, .ignore, .alarm), (.detStuckOff, .none, .alarm, .ignore, .alarm),
   (.unmappedCurrent, .none, .flash, .alarm, .dark), (.linkSilent, .none, .alarm, .ignore, .flash)]

/-- The rows of the kinds whose severity no record changes (R133). -/
def fixedRows : List SeverityRow :=
  [(.conflict, .none, .flashNow, .flashNow, .flashNow), (.intergreenShort, .none, .flashNow, .flashNow, .flashNow),
   (.greenInFlash, .none, .dark, .dark, .dark), (.supplyBand, .none, .alarm, .alarm, .alarm),
   (.supplyLost, .none, .alarm, .alarm, .alarm), (.storeFault, .none, .alarm, .alarm, .alarm),
   (.referencesLost, .none, .alarm, .alarm, .alarm), (.contactorNoClose, .none, .dark, .dark, .dark),
   (.contactorWeld, .none, .dark, .dark, .dark), (.definitionInvalid, .none, .dark, .dark, .dark),
   (.allLocked, .none, .flash, .flash, .flash)]

/-- The severity table, every row of it (R133). -/
def severityTable : List SeverityRow :=
  lampPartialRows ++ lampOutRows ++ lampOverRows ++ offCurrentRows ++ cableOpenRows ++ otherRows ++ fixedRows

/-- The rank of a severity, in ascending order (R133). -/
def rank : Severity → Nat
  | .ignore => 0
  | .alarm => 1
  | .lockout => 2
  | .flash => 3
  | .flashNow => 4
  | .dark => 5

/-- A kind whose rows are circuit rows (R10). -/
def OnCircuit (k : FaultKind) : Prop :=
  k ∈ [FaultKind.lampPartial, .lampOut, .lampOver, .offCurrent, .cableOpen, .cableCross, .intermittent, .learnRejected]

/-- A configured severity bounded to its row (R14): LOCKOUT becomes FLASH on a row that is not a circuit row, then a severity
below the floor is raised to it and one above the maximum lowered to it. -/
def BoundedTo (k : FaultKind) (b : RowBounds) (cfg sev : Severity) : Prop :=
  ∃ x, (cfg = .lockout ∧ ¬ OnCircuit k → x = .flash) ∧ (cfg ≠ .lockout ∨ OnCircuit k → x = cfg)
    ∧ (rank x < rank b.floor → sev = b.floor)
    ∧ (rank b.floor ≤ rank x → rank b.max < rank x → sev = b.max)
    ∧ (rank b.floor ≤ rank x → rank x ≤ rank b.max → sev = x)

/-- The link silence timer as it is started: RUNNING with the link silence time of the live junction record, or OFF while the
definition is INVALID or that time is 0 (R185). -/
def SilenceStarts (t : State) : Prop :=
  (∀ j, t.dt.valid = true → t.dt.live.junction = some j → j.linkSilence ≠ 0 →
      t.li.silence = .running ∧ t.li.remaining = j.linkSilence)
    ∧ ((t.dt.valid = false ∨ ∀ j, t.dt.live.junction = some j → j.linkSilence = 0) →
      t.li.silence = .off ∧ t.li.remaining = 0)

/-- A service record at a green end (R161): with no open capture no count changes; with one the green is counted, with its
wait where it served one, and, where its format is EXTENDED, by its end tag for the cause NORMAL and as forced for any other.
The capture is closed and the tag none. (A recall may open the next wait.) -/
def Counted (now : Nat) (v w : GroupService) (normal : Prop) : Prop :=
  (v.capture = none → w = { v with tag := .none, wait := w.wait })
    ∧ ∀ c, v.capture = some c →
      w = { v with
          greens := v.greens + 1, greenDs := v.greenDs + BitVec.ofNat 32 (now - c.start), served := w.served
          waitDs := w.waitDs, lastWait := w.lastWait, maxWait := w.maxWait, gapOuts := w.gapOuts, maxOuts := w.maxOuts
          forced := w.forced, wait := w.wait, capture := none, tag := .none }
      ∧ (c.wait = none → w.served = v.served ∧ w.waitDs = v.waitDs ∧ w.lastWait = v.lastWait ∧ w.maxWait = v.maxWait)
      ∧ (∀ x, c.wait = some x → w.served = v.served + 1 ∧ w.waitDs = v.waitDs + BitVec.ofNat 32 x
          ∧ w.lastWait = min x 65535 ∧ w.maxWait = max v.maxWait (min x 65535))
      ∧ (c.extended = true → normal → v.tag = .gapOut → w.gapOuts = v.gapOuts + 1)
      ∧ (c.extended = false ∨ ¬ normal ∨ v.tag ≠ .gapOut → w.gapOuts = v.gapOuts)
      ∧ (c.extended = true → normal → v.tag = .maxOut → w.maxOuts = v.maxOuts + 1)
      ∧ (c.extended = false ∨ ¬ normal ∨ v.tag ≠ .maxOut → w.maxOuts = v.maxOuts)
      ∧ (c.extended = true → ¬ normal → w.forced = v.forced + 1)
      ∧ (c.extended = false ∨ normal → w.forced = v.forced)

/-- Every green of a state is over with a cause other than NORMAL, and counted so (R161). -/
def ForcedEnds (s t : State) : Prop :=
  ∀ g r v, tget? s.gs.groups g = some r → r.aspect = .green → tget? s.ru.groups g = some v →
    t.aspect? g ≠ some .green ∧ ∃ w, tget? t.ru.groups g = some w ∧ Counted s.uptime v w False

/-- The service records at a stage request, each group taking an end tag first (R161, R162): a green out of the new set whose
min green has elapsed ends at once and is counted, cause NORMAL; any other record keeps the tag and every count. -/
def ServedAtRequest (s t : State) (set : GroupSet) (tag : Nat → EndTag → EndTag) : Prop :=
  ∀ g r v, tget? s.gs.groups g = some r → r.lockHeld = false → tget? s.ru.groups g = some v →
    ∃ w, tget? t.ru.groups g = some w
      ∧ (r.aspect = .green → r.minElapsed = true → inSet set g = false →
          Counted s.uptime { v with tag := tag g v.tag } w True)
      ∧ (r.aspect ≠ .green ∨ r.minElapsed = false ∨ inSet set g = true → w = { v with tag := tag g v.tag })

/-- The source of a fault key is defined by a definition, as the junction and the channels always are (R17). -/
def SourceDefined (d : DefSet) (k : Nat) : Prop :=
  (keySourceCode k = 1 → tget? d.groups (keyNumber k) ≠ none)
    ∧ (keySourceCode k = 2 → tget? d.circuits (keyNumber k) ≠ none)
    ∧ (keySourceCode k = 3 → tget? d.cables (keyNumber k) ≠ none)
    ∧ (keySourceCode k = 4 → tget? d.detectors (keyNumber k) ≠ none)

/-- A commit takes an entry out of the fault table: its source is not defined, or its row is re-rated to IGNORE (R17). -/
def GoesAtCommit (d : DefSet) (k : Nat) (e : FaultEntry) : Prop :=
  ¬ SourceDefined d k ∨ ∀ kind, kindOfCode? (keyKindCode k) = some kind → d.effective kind e.row = .ignore

/-- The state faults a commit clears: DEFINITION_INVALID (R15), UNMAPPED_CURRENT of a channel it maps (R17, log 14), CONFLICT
(R123), and CABLE_CROSS of a circuit whose crossed pairs are all lost (R121). -/
def ClearedAtCommit (s : State) (d : DefSet) (k : Nat) : Prop :=
  k = faultKey .junction .definitionInvalid ∨ k = faultKey .junction .conflict
    ∨ (∃ ch, 1 ≤ ch ∧ ch ≤ 104 ∧ d.mapped? ch ≠ none ∧ k = faultKey (.channel ch) .unmappedCurrent)
    ∨ ∃ c, tget? d.circuits c ≠ none ∧ k = faultKey (.circuit c) .cableCross
        ∧ (∃ e ∈ s.csu.pairs, e.1 / 256 = c ∧ e.2.crossed = true)
        ∧ ∀ e ∈ s.csu.pairs, e.1 / 256 = c → e.2.crossed = true →
            ∀ a b, tget? d.circuits (e.1 / 256) = some a → tget? d.circuits (e.1 % 256) = some b → a.cable ≠ b.cable

/-- The queued notices but for ALL_LOCKED's, each without its cleared-since mark. -/
def noticesApart (q : List Notice) : List Notice :=
  q.filterMap fun
    | .fault k first partner _ repeated =>
      if k = faultKey .junction .allLocked then none else some (.fault k first partner false repeated)
    | .mode time entered => some (.mode time entered)

/-! ### The end of a step: the reports and decisions of its instant, in their order (logs 15 and 19) -/

/-- The report that every group is at rest in CLEARING: the all-red timer, none until then, starts at 0 (R36, R140). -/
def AllRedJudged (s t : State) : Prop :=
  (s.fru.mode = .clearing → s.fru.allRed = none → s.AllRest → t = { s with fru := { s.fru with allRed := some 0 } })
    ∧ (s.fru.mode ≠ .clearing ∨ s.fru.allRed ≠ none ∨ ¬ s.AllRest → t = s)

/-- The SYNC allowance of an established stage of a FIXED plan: a tenth of its span, rounded down (R46, R51). -/
def AllowanceSet (t : State) : Prop :=
  ∀ slot p id k st, t.sc.current = some slot → tget? t.sc.slots slot = some (.valid p id) → p.mode = .fixed →
    t.sc.stage = some k → p.stage? k = some st →
      t.sc.allowance = ((match p.stage? (k + 1) with | some n => n.change | none => p.cycle) - st.change) / 10

/-- The report of establishment (R33, R51): in RUN, once for each request, at the first instant the requested set stands,
established becomes yes, stage elapsed 0 and the allowance of a FIXED stage is set; otherwise all stands. -/
def Reported (s t : State) : Prop :=
  (∀ set, s.fru.mode = .run → s.gs.reportOwed = true → s.gs.requested = some set → s.Stands set →
      t = { s with
          gs := { s.gs with reportOwed := false }
          sc := { s.sc with established := true, elapsed := 0, allowance := t.sc.allowance } }
        ∧ AllowanceSet t)
    ∧ (s.fru.mode ≠ .run ∨ s.gs.reportOwed = false ∨ (∀ set, s.gs.requested = some set → ¬ s.Stands set) → t = s)

/-- A stage requested (R28, R29, R51): it is the current stage, not established, with no forced stage, and its green set the
requested one; each green out of target whose min green has elapsed ends, stamped, with its extension timer 0; every other
group takes its new target alone; and the service records take their tags and counts. -/
def Requests (s t : State) (k : Nat) (st : Stage) (tag : Nat → EndTag → EndTag) : Prop :=
  t = { s with sc := t.sc, gs := t.gs, ru := { s.ru with groups := t.ru.groups } }
    ∧ t.sc = { s.sc with
        stage := some k, established := false, elapsed := 0, forced := none, demand := t.sc.demand, ext := t.sc.ext }
    ∧ t.gs = { s.gs with requested := some st.green, reportOwed := true, groups := t.gs.groups }
    ∧ ServedAtRequest s t st.green tag
    ∧ ∀ g r, tget? s.gs.groups g = some r →
        (r.aspect = .green ∧ r.minElapsed = true ∧ (r.lockHeld = true ∨ inSet st.green g = false) →
          tget? t.gs.groups g = some { r with
            aspect := match s.kindOf g with | .vehicle => .amber | .arrow => .dark | .pedestrian => .clearance
            timer := 0, halves := 0, greenEnd := s.uptime, inTarget := false }
          ∧ ∀ e, tget? s.sc.ext g = some e → tget? t.sc.ext g = some { e with timer := 0 })
        ∧ (¬ (r.aspect = .green ∧ r.minElapsed = true ∧ (r.lockHeld = true ∨ inSet st.green g = false)) →
          tget? t.gs.groups g = some { r with inTarget := !r.lockHeld && inSet st.green g }
          ∧ tget? t.sc.ext g = tget? s.sc.ext g ∧ tget? t.sc.demand g = tget? s.sc.demand g)

/-- A pending plan taken over in RUN (R63): it is current and none is pending; HOLD, the forced stage, Δ, the allowance and
the clock (log 33) are cleared, and its stage 1 is requested. -/
def TakenOver (s t : State) (n : Nat) : Prop :=
  ∀ q id st, tget? s.sc.slots n = some (.valid q id) → q.stage? 1 = some st →
    Requests { s with sc := { s.sc with
      current := some n, pending := none, clock := 0, delta := 0, allowance := 0, hold := 0, forced := none, owed := false
      arrivals := [] } } t 1 st fun _ tag => tag

/-- What the SC does in stage k of an ACTUATED plan once it may be left (R56, R57, R59, R63): a forced stage is requested;
with none, a pending plan is taken where the stage is spent or no other has demand; with neither, a spent stage ends in the
next that has demand, with the end tags of R162; otherwise the stage goes on. -/
def Decides (s t : State) (p : Plan) (k : Nat) (cur : Stage) : Prop :=
  (∀ f st, s.sc.forced = some f → p.stage? f = some st → Requests s t f st fun _ tag => tag)
    ∧ (∀ n, s.sc.forced = none → s.sc.pending = some n → (Spent s cur ∨ ∀ m, ¬ IsNext s p k m) → TakenOver s t n)
    ∧ (∀ n st, s.sc.forced = none → s.sc.pending = none → IsNext s p k n → p.stage? n = some st → Spent s cur →
        Requests s t n st fun g tag =>
          if inSet cur.green g = true ∧ inSet st.green g = false ∧ s.isGreen g = true ∧ s.isLocked g = false then
            (if s.gappedOut g = true then .gapOut else .maxOut)
          else tag)
    ∧ (s.sc.forced = none → s.sc.pending ≠ none → ¬ Spent s cur → (∃ m, IsNext s p k m) → t = s)
    ∧ (s.sc.forced = none → s.sc.pending = none → (¬ Spent s cur ∨ ∀ m, ¬ IsNext s p k m) → t = s)

/-- The SC's decision at this instant (R56, R58): due in RUN with an ACTUATED plan once the current stage is established,
HOLD is 0 and stage elapsed has reached the stage min; at any other time nothing is decided. -/
def Decided (s t : State) : Prop :=
  (∀ p k cur, s.running? .actuated = some p → s.sc.stage = some k → p.stage? k = some cur → s.sc.established = true →
      s.sc.hold = 0 → s.dt.live.stageMin cur ≤ s.sc.elapsed → Decides s t p k cur)
    ∧ ((∀ p k cur, s.running? .actuated = some p → s.sc.stage = some k → p.stage? k = some cur →
        s.sc.established = false ∨ s.sc.hold ≠ 0 ∨ s.sc.elapsed < s.dt.live.stageMin cur) → t = s)

/-- The end of a step whose own effect leaves s: the all-red is judged; the requested stage is reported established if it
stands; the SC decides if a decision is due, at that instant; a stage so requested is reported if it stands already; and the
outputs follow. Nothing else changes. -/
def Ends (s t : State) : Prop :=
  Settles s t ∧ ∃ a b c d : State, AllRedJudged s a ∧ Reported a b ∧ Decided b c ∧ Reported c d
    ∧ t = { d with ob := t.ob, pu := t.pu, csu := t.csu }

/-- A stage of this green set has been requested in this step, and is reported at once exactly where it stands already: then
it is established with stage elapsed 0 and a FIXED plan's allowance, and otherwise neither (R33, R51). -/
def JustRequested (t : State) (set : GroupSet) : Prop :=
  t.gs.requested = some set ∧ t.sc.elapsed = 0 ∧ t.sc.forced = none
    ∧ (t.Stands set → t.sc.established = true ∧ t.gs.reportOwed = false ∧ AllowanceSet t)
    ∧ (¬ t.Stands set → t.sc.established = false ∧ t.gs.reportOwed = true)

/-- A group has entered GREEN: its green start is recorded and its min green not elapsed, its demand is taken, a presence
already standing holds its extension timer at the unit extension, and its service record follows (R30, R53, R55, R160). -/
def GreenStarted (s t : State) (g : Nat) (rec : GroupRec) : Prop :=
  t = { s with gs := t.gs, sc := t.sc, ru := { s.ru with groups := t.ru.groups } }
    ∧ t.gs = { s.gs with groups := tupd s.gs.groups g fun q =>
        { q with aspect := .green, timer := 0, halves := 0, greenStart := some s.uptime, minElapsed := false } }
    ∧ t.sc = { s.sc with
        demand := s.sc.demand.filter fun e => e.1 ≠ g
        ext := tupd s.sc.ext g fun x => { x with timer := if x.presence = true then rec.unitExt else x.timer } }
    ∧ ∀ k, k ≠ g → tget? t.ru.groups k = tget? s.ru.groups k

/-- What a change of one detector may change before the step ends: the DU, the demand and extension state, the fault table
with the notices, and the service records (R68, R69). -/
def DetectorMoved (s t : State) : Prop :=
  t = { s with
    du := t.du
    sc := { s.sc with demand := t.sc.demand, ext := t.sc.ext }
    fru := { s.fru with table := t.fru.table }
    ru := { s.ru with groups := t.ru.groups, queue := t.ru.queue, attn := t.ru.attn } }

/-! ### The cycle clock -/

/-- An ordinary advance of a FIXED plan's clock: one ds on, from C − 1 to 0; the stage whose change point it comes to, if any,
is appended to the arrivals (R52). -/
def Advances (p : Plan) (a b : Stages) : Prop :=
  b = { a with clock := (a.clock + 1) % p.cycle, arrivals := b.arrivals }
    ∧ (∀ k st, p.stage? k = some st → st.change = (a.clock + 1) % p.cycle →
        (∀ j x, j < k → p.stage? j = some x → x.change ≠ (a.clock + 1) % p.cycle) → b.arrivals = a.arrivals ++ [k])
    ∧ ((∀ k st, p.stage? k = some st → st.change ≠ (a.clock + 1) % p.cycle) → b.arrivals = a.arrivals)

/-- A ds of correction is to be made in place of the advance: the stage is established, its stage min reached, the allowance
not 0 and Δ not 0 (R61). -/
def Correctable (s : State) (p : Plan) : Prop :=
  s.sc.established = true ∧ s.sc.allowance ≠ 0 ∧ s.sc.delta ≠ 0
    ∧ ∃ k st, s.sc.stage = some k ∧ p.stage? k = some st ∧ s.dt.live.stageMin st ≤ s.sc.elapsed

/-- Every red circuit is proved: its channel is ON with a confirmed on-class, PROVEN, PARTIAL, OUT or OVER (R94, log 18). -/
def RedsProved (s : State) : Prop :=
  ∀ e ∈ s.dt.live.circuits, e.2.role = .red →
    ∃ r, tget? s.pu.circuits e.1 = some r ∧ r.channelOn = true ∧ r.confirmed ∈ [.proven, .partly, .out, .over]

/-- The entry to RUN up to the request of stage 1 (R51, R63): the mode and its notice, a pending plan current, and the clock
(log 33), Δ, the allowance, HOLD and the forced stage cleared. -/
def RunEntered (s a : State) : Prop :=
  ModeNoticed s a .run ∧ a.ru.groups = s.ru.groups
    ∧ a = { s with
        fru := { s.fru with mode := .run, allRed := none }
        ru := a.ru
        sc := { s.sc with
          current := s.sc.pending.or s.sc.current, pending := none, clock := 0, delta := 0, allowance := 0, hold := 0
          forced := none, owed := false, arrivals := [] } }

/-- A raise of the junction's, rated by its row, at the SC and the GS where the lockout set follows the table: what the change
of mode it brings does there, and nothing where it brings none (R135). -/
def RaiseMoves (s u : State) (kind : FaultKind) : Prop :=
  Raised s u .junction kind .none 0
    ∧ (s.LockoutFollows → ScMoves s u u.fru.mode ∧ GsMoves s u u.fru.mode
        ∧ u.fru.mode = (if s.dt.live.effective kind .none = .ignore ∨ s.isLive .junction kind = true then s.fru.mode
            else (s.dt.live.effective kind .none).modeAfter s.fru.mode))

/-- The PU at the entry to CLOSED: each circuit restarts its settling as at a switch to the state its channel stands in, and
nothing else of its record changes (R83). -/
def SettlingRestarted (s : State) (p : Proving) : Prop :=
  p = { s.pu with circuits := tmap s.pu.circuits fun c r =>
    match s.circuitRec? c with
    | none => r
    | some rec => { r with
        settle := if r.channelOn = true then (if rec.lampType = .incandescent then 4 else 2) else 2
        firstOn := if r.channelOn = true then true else r.firstOn } }

/-- What LINK_SILENT does at the SC (R53, R64): HOLD and the forced stage are cleared; the LINK origin is withdrawn from every
group, and a group left with none leaves the set and its wait is withdrawn; a VALID fallback slot becomes the pending plan, or
clears it where it is the current one, and is taken at once in DARK, START_FLASH, FLASH and SUPPLY_WAIT; with none VALID the
pending plan stands. -/
def FallsSilent (u v : State) : Prop :=
  v = { u with
      sc := { u.sc with
        hold := 0, forced := none, demand := v.sc.demand, current := v.sc.current, pending := v.sc.pending }
      ru := { u.ru with groups := v.ru.groups } }
    ∧ (∀ g, tget? v.sc.demand g = match tget? u.sc.demand g with
        | none => none
        | some o => if o.detector = true ∨ o.recalls = true then some { o with link := false } else none)
    ∧ (∀ g x, tget? u.ru.groups g = some x → tget? v.ru.groups g = some
        (if tget? u.sc.demand g ≠ none ∧ tget? v.sc.demand g = none then { x with wait := none } else x))
    ∧ ((∀ j p id, u.dt.live.junction = some j → tget? u.sc.slots j.fallback ≠ some (.valid p id)) →
        v.sc.current = u.sc.current ∧ v.sc.pending = u.sc.pending)
    ∧ ∀ j p id, u.dt.live.junction = some j → tget? u.sc.slots j.fallback = some (.valid p id) →
        (u.fru.mode ∈ [.dark, .startFlash, .flash, .supplyWait] → v.sc.current = some j.fallback ∧ v.sc.pending = none)
        ∧ (u.fru.mode ∈ [.startRed, .run, .clearing] → v.sc.current = u.sc.current
            ∧ v.sc.pending = if u.sc.current = some j.fallback then none else some j.fallback)

/-- A detector that extends group g is substituted (R70, R74). -/
def SubstituteExtends (s : State) (g : Nat) : Prop :=
  ∃ x ∈ s.du.dets, ∃ rec, s.detectorRec? x.1 = some rec ∧ inSet rec.extendSet g = true
    ∧ (s.isLive (.detector x.1) .detStuckOn = true ∨ s.isLive (.detector x.1) .detStuckOff = true)

/-- The SC at a commit of d (R16, R54, R74): no demand but the recalls and that of the substituted detectors, every extension
timer 0 with the presence of the substituted detectors alone; but for the slots and the plans in force all else stands. -/
def CommitAtStages (d : DefSet) (s t : State) : Prop :=
  t.sc = { s.sc with
      slots := t.sc.slots, current := t.sc.current, pending := t.sc.pending, demand := t.sc.demand, ext := t.sc.ext }
    ∧ (∀ g, tget? d.groups g = none → tget? t.sc.demand g = none ∧ tget? t.sc.ext g = none)
    ∧ ∀ g rec, tget? d.groups g = some rec →
      (tget? t.sc.demand g = none ↔ rec.recalls = false ∧ ¬ SubstituteDemands t g)
      ∧ (∀ o, tget? t.sc.demand g = some o →
          o.link = false ∧ o.recalls = rec.recalls ∧ (o.detector = true ↔ SubstituteDemands t g))
      ∧ ∃ x, tget? t.sc.ext g = some x ∧ x.timer = 0 ∧ (x.presence = true ↔ SubstituteExtends t g)

/-- The DU at a commit of d (R16, R66, R79): each defined detector's record starts anew with the raw level of its latest
sample, and no other number has one; the service records keep the counts of the detectors kept, those of a new one start
enabled, and nothing is left of one no longer defined (R164; log 43 for its arming). -/
def CommitAtDetectors (d : DefSet) (s t : State) : Prop :=
  t.du = { s.du with dets := t.du.dets }
    ∧ (∀ n, tget? d.detectors n = none → tget? t.du.dets n = none)
    ∧ (∀ n rec, tget? d.detectors n = some rec → tget? t.du.dets n = some
        { level := false, raw := ((tget? s.du.dets n).map (·.raw)).getD false, run := 0, presence := 0, gap := none
          absence := 0, activations := 0, occupied := 0, classCount := 0 })
    ∧ ∀ n v, tget? s.ru.dets n = some v → tget? t.ru.dets n = some
        { (if tget? d.detectors n = none then DetService.blank
           else if s.detectorRec? n = none then { DetService.blank with cfgEnable := true } else v)
          with kind := (tget? d.detectors n).map (·.kind) }

/-- The PU at a commit of d, but for the references (R16, R81): every circuit is as at its start, unproven, with its settling
restarted for the state its channel stands in, and nothing being learned. -/
def CommitAtCircuits (d : DefSet) (s t : State) : Prop :=
  tkeys t.pu.circuits = tkeys d.circuits
    ∧ ∀ c rec, tget? d.circuits c = some rec → ∃ r, tget? t.pu.circuits c = some r
      ∧ r.channelOn = ((tget? s.ob.channels rec.channel).map (·.state)).getD false
      ∧ r.settle = (if r.channelOn = true then (if rec.lampType = .incandescent then 4 else 2) else 2) ∧ r.firstOn = true
      ∧ r.filter = 0 ∧ r.latestS = 0 ∧ r.latestC = 0 ∧ r.lit = 0 ∧ r.candidate = none ∧ r.counter = 0
      ∧ r.confirmed = .unproven ∧ r.lastOn = none ∧ r.lastOff = none ∧ r.learning = false ∧ r.learnCount = 0
      ∧ r.learnSum = 0 ∧ r.episodes = 0

/-- The CSU and the channel watches at a commit of d (R16, R104, R107, R108, R111, R113, R121, R156): every dark record, loop
record and leakage record starts at 0; a measurement and a pattern test are abandoned and each round starts at 1; the
priority lists keep what is still defined, and still of cross_test; a pair of circuits still on one cable keeps its crossed
value with its streaks 0, any other goes; a channel's watch starts anew, raised only where it was and is unmapped. -/
def CommitAtCables (d : DefSet) (s t : State) : Prop :=
  t.csu = { s.csu with
      dark := t.csu.dark, loops := t.csu.loops, leaks := t.csu.leaks, pairs := t.csu.pairs, measuring := none, dwelt := 0
      residual := 0, test := none, leakCursor := 1, crossCursor := 1
      leakList := s.csu.leakList.filter fun c => (tget? d.cables c).isSome
      crossList := s.csu.crossList.filter fun c => (tget? d.circuits c).any (·.crossTest) }
    ∧ (∀ c x, (c, x) ∈ t.csu.dark ↔ x = ⟨0, 0, 0, false⟩ ∧ ∃ rec, (c, rec) ∈ d.circuits)
    ∧ (∀ c x, (c, x) ∈ t.csu.loops ↔ x = ⟨none, 0, 0⟩ ∧ ∃ rec, (c, rec) ∈ d.circuits ∧ rec.loopTest = true)
    ∧ (∀ c x, (c, x) ∈ t.csu.leaks ↔ x = ⟨none, ⟨0, 0, false⟩, ⟨0, 0, false⟩, 0⟩ ∧ ∃ rec, (c, rec) ∈ d.cables)
    ∧ (∀ k x, (k, x) ∈ t.csu.pairs ↔ ∃ r a b, (k, r) ∈ s.csu.pairs ∧ tget? d.circuits (k / 256) = some a
        ∧ tget? d.circuits (k % 256) = some b ∧ a.cable = b.cable ∧ x = { r with positive := 0, negative := 0 })
    ∧ ∀ ch c, tget? s.ob.channels ch = some c → ∃ c', tget? t.ob.channels ch = some c'
        ∧ c' = { c with command := c'.command, above := 0, below := 0, raised := c'.raised }
        ∧ (c'.raised = true ↔ c.raised = true ∧ s.dt.live.mapped? ch = none ∧ d.mapped? ch = none)

/-- The CM at a commit of d (R123): a record for each defined group and a count for each pair, all at their start. -/
def CommitAtMonitor (d : DefSet) (t : State) : Prop :=
  (∀ g x, (g, x) ∈ t.cm.groups ↔ x = ⟨false, .closed, 0, 0, false, none, 0⟩ ∧ ∃ rec, (g, rec) ∈ d.groups)
    ∧ ∀ k n, (k, n) ∈ t.cm.pairs ↔ n = 0 ∧ ∃ rec, (k, rec) ∈ d.conflicts

end Sys2Proof.Claims

open Sys2Proof Sys2Proof.Machine Sys2Proof.Claims

/-! ### The queue and time -/

/-- A step carries out the command at the front of the queue on the state with the queue's rest. -/
def Obligations.StepTakesFront : Prop :=
  ∀ (c : Instr) (rest : List Instr) (s : State),
    step { s with pending := c :: rest } = exec c { s with pending := rest }

/-- An empty queue lets 5 ms pass, and every twentieth such step is a ds boundary (logs 1 and 2: the model's own choice).
Every 5 ms the proving timer counts in CLOSING and OPENING and the write in flight up to its write time, and nothing else
(R150, R151, R171). At a ds boundary uptime, the groups' state timers, the flash half in a FLASH_PATTERN mode, the mode and
all-red timers, stage elapsed, HOLD, the extension timers, the detectors' presence, occupied, gap and absence figures, the
silence timer, the cycle clock of a FIXED plan and each dark circuit's dark time and loop phase move by one ds; a loop
application falls due as the phase wraps; what only a command changes stays. The clock of a FIXED plan stands in a ds of
correction, which is then owed, and advances by one in any other; the change point it comes to joins the arrivals; a
correction still owed at the boundary is first made up as an ordinary advance (R52, R61; owed and arrivals are the model's
own fields: log 16). -/
def Obligations.EmptyQueueLetsTimePass : Prop :=
  ∀ s : State, s.pending = [] →
    ∃ t, step s = .next t ∧ t.pending = [] ∧ t.dt = s.dt ∧ t.ob = s.ob ∧ t.pu = s.pu ∧ t.cm = s.cm ∧ t.ru = s.ru
      ∧ t.fru.table = s.fru.table ∧ t.fru.mode = s.fru.mode ∧ t.spc.contactor = s.spc.contactor
      ∧ (∀ g, t.aspect? g = s.aspect? g)
      ∧ t.spc = { s.spc with provingTimer :=
          if s.spc.contactor = .closing ∨ s.spc.contactor = .opening then min 300 (s.spc.provingTimer + 5)
          else s.spc.provingTimer }
      ∧ t.stc = { s.stc with flight := s.stc.flight.map fun f =>
          { f with elapsed := min (if f.image = 1 then 1500 else 400) (f.elapsed + 5) } }
      ∧ (s.subTick + 1 < 20 → t = { s with subTick := s.subTick + 1, spc := t.spc, stc := t.stc })
      ∧ (20 ≤ s.subTick + 1 → t.uptime = s.uptime + 1 ∧ t.subTick = 0 ∧ t.loading = s.loading ∧ t.free = s.free
        ∧ t.sc.hold = s.sc.hold - 1
        ∧ t.sc.stage = s.sc.stage
        ∧ (∀ g r, tget? s.gs.groups g = some r →
            tget? t.gs.groups g = some { r with timer := min 65535 (r.timer + 1) })
        ∧ (s.sc.established = true → t.sc.elapsed = min 65535 (s.sc.elapsed + 1))
        ∧ (s.sc.established = false → t.sc.elapsed = s.sc.elapsed)
        ∧ t.gs = { s.gs with groups := t.gs.groups, flashTimer :=
            if s.fru.mode = .startFlash ∨ s.fru.mode = .flash then s.gs.flashTimer + 1 else s.gs.flashTimer }
        ∧ t.fru = { s.fru with
            modeTimer := if s.fru.mode = .startFlash ∨ s.fru.mode = .startRed then min 600 (s.fru.modeTimer + 1)
              else s.fru.modeTimer
            allRed := s.fru.allRed.map fun n => min 100 (n + 1) }
        ∧ t.li = { s.li with remaining :=
            if s.li.silence = .running then s.li.remaining - 1 else s.li.remaining }
        ∧ t.du.intervalStart = s.du.intervalStart
        ∧ (∀ d rec r, s.detectorRec? d = some rec → tget? s.du.dets d = some r →
            tget? t.du.dets d = some { r with
              presence := if r.level then min 65535 (r.presence + 1) else r.presence
              occupied := if r.level then min 600 (r.occupied + 1) else r.occupied
              gap := if r.level then r.gap else r.gap.map fun n => min 65535 (n + 1)
              absence := min rec.maxAbsenceDs (r.absence + 1) })
        ∧ (∀ g x, tget? s.sc.ext g = some x → tget? t.sc.ext g = some { x with
            timer := if s.isGreen g = true ∧ x.presence = false then x.timer - 1 else x.timer })
        ∧ t.csu = { s.csu with dark := t.csu.dark }
        ∧ (∀ c r, tget? s.csu.dark c = some r →
            (s.circuitIsOn c = true → tget? t.csu.dark c = some { r with due := false })
            ∧ (s.circuitIsOn c = false → ∃ due, tget? t.csu.dark c =
                  some { r with time := min 65535 (r.time + 1), phase := (r.phase + 1) % 10, due := due }
                ∧ (due = true ↔ r.phase = 9 ∧ (∃ rec, s.circuitRec? c = some rec ∧ rec.loopTest = true) ∧ DarkSettled s c
                    ∧ ∀ p, s.csu.test = some p → p.source ≠ c ∧ ∀ x ∈ p.sensors, x.circuit ≠ c)))
        ∧ (s.running? .fixed = none →
            t.sc = { s.sc with elapsed := t.sc.elapsed, hold := t.sc.hold, ext := t.sc.ext })
        ∧ ∀ p, s.running? .fixed = some p →
            ∃ c : Stages, (s.sc.owed = false → c = s.sc)
              ∧ (s.sc.owed = true → ∃ d, Advances p s.sc d ∧ c = { d with owed := false })
              ∧ (Correctable s p → t.sc = { c with
                  owed := true, elapsed := t.sc.elapsed, hold := t.sc.hold, ext := t.sc.ext })
              ∧ (¬ Correctable s p → ∃ d, Advances p c d ∧ t.sc = { d with
                  elapsed := t.sc.elapsed, hold := t.sc.hold, ext := t.sc.ext }))

/-! ### Reads -/

/-- IDENT: its reply, and nothing changed but the LI (R184).
STATUS: a body of 40 bytes with every field at its offset (section 11.6, R184). -/
def Obligations.IdentAndStatusReply : Prop :=
  (
    ∀ s : State, Hears s →
      ∃ t, exec .ident s = .next t
        ∧ OnlyAnswered s t 0x01
            [0x00#8, 0xA0#8, 0x25#8, BitVec.ofNat 8 s.li.addrStrap.toNat, if s.li.rateStrap then 1 else 0, 0xF0#8])
    ∧ (
    ∀ s : State, Hears s →
      ∃ t body, exec .status s = .next t ∧ OnlyAnswered s t 0x02 body ∧ body.length = 40
        ∧ field body 0 1 = 0 ∧ field body 1 1 = s.fru.mode.code
        ∧ field body 2 1 = (if s.fru.startRequest then 1 else 0) + (if s.fru.autoAwaited then 2 else 0)
            + (if s.dt.valid then 4 else 0) + (if s.ru.overflow then 8 else 0) + (if s.ru.active then 16 else 0)
        ∧ field body 3 4 = s.dt.identity.toNat ∧ field body 7 2 = s.fru.modeTimer % 65536
        ∧ field body 9 1 = s.fru.allRed.getD 255 % 256 ∧ field body 10 1 = s.sc.current.getD 0 % 256
        ∧ field body 11 1 = s.sc.pending.getD 0 % 256 ∧ field body 12 1 = s.sc.stage.getD 0 % 256
        ∧ field body 13 1 = (if s.sc.established then 1 else 0) ∧ field body 14 2 = s.sc.elapsed % 65536
        ∧ field body 16 2 = s.sc.clock % 65536 ∧ (field body 18 2 : Int) = s.sc.delta % 65536
        ∧ field body 20 1 = s.sc.allowance % 256 ∧ field body 21 2 = s.sc.hold % 65536
        ∧ field body 23 1 = s.sc.forced.getD 0 % 256 ∧ field body 24 4 = s.cm.shownSet.toNat
        ∧ field body 28 2 = s.spc.volts % 65536 ∧ field body 30 1 = s.spc.condition.code
        ∧ field body 31 1 = s.spc.contactor.code ∧ field body 32 1 = s.spc.frequency.getD 0 % 256
        ∧ field body 33 1 = s.ru.queue.length % 256 ∧ field body 34 4 = s.uptime % 4294967296
        ∧ field body 38 1 = s.li.silence.code ∧ field body 39 1 = s.li.addrStrap.toNat)

/-- GROUP_READ: a defined group's record field by field, with the three forms of the earliest green start: not
defined while a conflicting group is in GREEN or RED_AMBER, none where no group conflicts, and else the largest green end of
a conflicting group plus its intergreen to this one; a group not defined is refused; nothing but the LI changes (R31, R42,
section 11.8).
DETECTOR_READ: a defined detector's record, the gap timer's field 0 while it is none (log 35, the model's choice); an undefined
one is refused; nothing but the LI changes (R78). -/
def Obligations.GroupAndDetectorReadReply : Prop :=
  (
    ∀ (s : State) (g : Byte), Hears s →
      (∀ rec r, s.groupRec? g.toNat = some rec → tget? s.gs.groups g.toNat = some r →
        ∃ t body, exec (.groupRead g) s = .next t ∧ OnlyAnswered s t 0x03 body ∧ body.length = 21
          ∧ field body 0 1 = 0 ∧ field body 1 1 = rec.kind.code ∧ field body 2 1 = r.aspect.code
          ∧ field body 3 2 = r.timer % 65536 ∧ field body 5 4 = r.greenStart.getD 0xFFFFFFFF % 4294967296
          ∧ field body 9 4 = r.greenEnd % 4294967296 ∧ field body 13 1 = (if r.minElapsed then 1 else 0)
          ∧ field body 14 1 = (if r.lockHeld then 1 else 0) ∧ field body 15 1 = (if r.inTarget then 1 else 0)
          ∧ (BlockedBy s g.toNat → field body 16 1 = 2 ∧ field body 17 4 = 0)
          ∧ (¬ BlockedBy s g.toNat → (∀ T, ¬ EarliestStart s g.toNat T) → field body 16 1 = 1 ∧ field body 17 4 = 0)
          ∧ ∀ v, ¬ BlockedBy s g.toNat → EarliestStart s g.toNat v →
              field body 16 1 = 0 ∧ field body 17 4 = v % 4294967296)
      ∧ (s.groupRec? g.toNat = none → ∃ t, exec (.groupRead g) s = .next t ∧ RefusedAt s t 0x03 0))
    ∧ (
    ∀ (s : State) (d : Byte), Hears s →
      (∀ rec r, s.detectorRec? d.toNat = some rec → tget? s.du.dets d.toNat = some r →
        ∃ t body, exec (.detectorRead d) s = .next t ∧ OnlyAnswered s t 0x06 body ∧ body.length = 25
          ∧ field body 0 1 = 0 ∧ field body 1 1 = rec.kind.code ∧ field body 2 1 = (if r.raw then 1 else 0)
          ∧ field body 3 1 = (if r.level then 1 else 0) ∧ field body 4 1 = r.run % 256
          ∧ field body 5 2 = r.presence % 65536 ∧ field body 7 1 = (if r.gap.isSome then 1 else 0)
          ∧ field body 8 2 = r.gap.getD 0 % 65536 ∧ field body 10 4 = r.absence % 4294967296
          ∧ field body 14 1 = (if s.isLive (.detector d.toNat) .detStuckOn then 1 else 0)
              + (if s.isLive (.detector d.toNat) .detStuckOff then 2 else 0)
          ∧ field body 15 2 = r.activations % 65536 ∧ field body 17 2 = r.occupied % 65536
          ∧ field body 19 2 = r.classCount % 65536
          ∧ field body 21 4 = (s.du.intervalStart + 600) % 4294967296)
      ∧ (s.detectorRec? d.toNat = none → ∃ t, exec (.detectorRead d) s = .next t ∧ RefusedAt s t 0x06 0))

/-- CIRCUIT_READ: a defined circuit's record, every field at its offset; with the clear option the episode counter is 0
afterwards and nothing else but the LI changes; an undefined circuit or an option byte above 1 is refused (R103).
CABLE_READ in parts: part 0 of a defined cable keeps the whole content as the held read: the levels and the leakage record,
the measurement (the half-cycles dwelt 0 where the cable is not in it: log 46, the model's choice) and its place in the list;
an entry for each circuit of the cable; the test block (the index 0 with no test on the cable: log 46; the sensors rising:
log 39); and the pair block (rising by source and sensor: log 39; up to 255 pairs: log 30); and with the clear option the
leak crossings alone are 0 afterwards; a later part of the same request carries its 236 bytes of the held content and changes
nothing but the reply; one that matches no held read is refused with REFUSED_EMPTY, whatever cable it names (log 52, the
model's choice); at part 0 an undefined cable or an option byte above 1 is refused (R122, R183). -/
def Obligations.CircuitAndCableReadReply : Prop :=
  (
    ∀ (s : State) (c o : Byte), Hears s →
      (∀ rec r, s.circuitRec? c.toNat = some rec → tget? s.pu.circuits c.toNat = some r → o.toNat ≤ 1 →
        ∃ t body, exec (.circuitRead c o) s = .next t ∧ Answered s t 0x04 body ∧ body.length = 26
          ∧ t = { s with li := t.li, pu := { s.pu with circuits := t.pu.circuits } }
          ∧ field body 0 1 = 0 ∧ field body 1 1 = rec.channel % 256 ∧ field body 2 1 = (if r.channelOn then 1 else 0)
          ∧ field body 3 1 = (if r.flashing then 1 else 0) ∧ field body 4 1 = r.settle % 256
          ∧ field body 5 2 = r.latestS % 65536 ∧ field body 7 2 = r.latestC % 65536
          ∧ field body 9 2 = (r.filter + 8) / 16 % 65536 ∧ field body 11 1 = r.lit % 256
          ∧ field body 12 1 = (match r.candidate with | some k => k.code | none => 0)
          ∧ field body 13 1 = r.counter % 256 ∧ field body 14 1 = r.confirmed.code
          ∧ field body 15 2 = r.reference % 65536 ∧ field body 17 1 = (if r.recorded.isSome then 1 else 0)
          ∧ (r.recorded = none → field body 18 1 = 0xFF ∧ field body 19 1 = 0 ∧ field body 20 2 = 0)
          ∧ (∀ d, r.recorded = some d → field body 18 1 = d.lampType.code ∧ field body 19 1 = d.lamps % 256
              ∧ field body 20 2 = d.rated % 65536)
          ∧ field body 22 1 = (if r.learning then 1 else 0) ∧ field body 23 1 = r.learnCount % 256
          ∧ field body 24 1 = r.episodes % 256 ∧ field body 25 1 = (if r.showing then 1 else 0)
          ∧ tget? t.pu.circuits c.toNat = some (if o.toNat = 1 then { r with episodes := 0 } else r)
          ∧ ∀ k, k ≠ c.toNat → tget? t.pu.circuits k = tget? s.pu.circuits k)
      ∧ (s.circuitRec? c.toNat = none → ∃ t, exec (.circuitRead c o) s = .next t ∧ RefusedAt s t 0x04 0)
      ∧ (∀ rec, s.circuitRec? c.toNat = some rec → 2 ≤ o.toNat →
          ∃ t, exec (.circuitRead c o) s = .next t ∧ RefusedAt s t 0x04 1))
    ∧ (
    ∀ (s : State) (c o : Byte), Hears s →
      (∀ rec r, s.cableRec? c.toNat = some rec → tget? s.csu.leaks c.toNat = some r → o.toNat ≤ 1 →
        ∃ t h, exec (.cableRead c o 0#8) s = .next t
          ∧ t = { s with li := t.li, csu := { s.csu with leaks := t.csu.leaks } }
          ∧ t.li = { s.li with reply := t.li.reply, held := some h } ∧ h.kind = 0x05 ∧ h.body = [c, o]
          ∧ Replied t 0x05 (0#8 :: 0#8 :: BitVec.ofNat 8 (partCount h.content) :: h.content.take 236)
          ∧ tget? t.csu.leaks c.toNat = some (if o.toNat = 1 then { r with crossings := 0 } else r)
          ∧ (∀ k, k ≠ c.toNat → tget? t.csu.leaks k = tget? s.csu.leaks k)
          ∧ field h.content 0 1 = rec.warnLevel % 256 ∧ field h.content 1 2 = rec.faultLevel % 65536
          ∧ field h.content 3 2 = r.last.getD 0xFFFF % 65536
          ∧ field h.content 5 1 = r.warn.above % 256 ∧ field h.content 6 1 = r.warn.below % 256
          ∧ field h.content 7 1 = r.fault.above % 256 ∧ field h.content 8 1 = r.fault.below % 256
          ∧ field h.content 9 1 = (if r.warn.raised then 1 else 0) + (if r.fault.raised then 2 else 0)
              + (if s.csu.measuring = some c.toNat then 4 else 0)
          ∧ field h.content 10 1 = r.crossings % 256
          ∧ field h.content 11 1 = (if s.csu.measuring = some c.toNat then s.csu.dwelt % 256 else 0)
          ∧ (c.toNat ∉ s.csu.leakList → field h.content 12 1 = 0)
          ∧ (∀ i, s.csu.leakList[i]? = some c.toNat → (∀ j, j < i → s.csu.leakList[j]? ≠ some c.toNat) →
              field h.content 12 1 = (i + 1) % 256)
          ∧ (let placed := s.dt.live.circuits.filter fun e => e.2.cable = c.toNat
             field h.content 13 1 = placed.length % 256
              ∧ ∀ i e, placed[i]? = some e →
                  field h.content (14 + 10 * i) 1 = e.1 % 256
                  ∧ (∀ d, tget? s.csu.dark e.1 = some d →
                      field h.content (15 + 10 * i) 1 = d.age % 256 ∧ field h.content (16 + 10 * i) 2 = d.time % 65536)
                  ∧ field h.content (18 + 10 * i) 1 = (if e.2.loopTest then 1 else 0)
                  ∧ (∀ l, tget? s.csu.loops e.1 = some l →
                      field h.content (19 + 10 * i) 1 = (match l.last with
                        | none => 255 | some .continuous => 0 | some .opened => 1 | some .indeterminate => 2)
                        ∧ field h.content (20 + 10 * i) 2 = l.openRun % 65536
                        ∧ field h.content (22 + 10 * i) 2 = l.clearRun % 65536)
                  ∧ (tget? s.csu.loops e.1 = none →
                      field h.content (19 + 10 * i) 1 = 255 ∧ field h.content (20 + 10 * i) 4 = 0))
          ∧ (let q := 14 + 10 * (s.dt.live.circuits.filter fun e => e.2.cable = c.toNat).length
             let pairs := s.csu.pairs.filter fun e => s.cableOf (e.1 / 256) = c.toNat
             let pairsAt (o : Nat) : Prop := h.content.length = o + 1 + 5 * pairs.length
              ∧ (pairs.length ≤ 255 → field h.content o 1 = pairs.length)
              ∧ ∀ i e, pairs[i]? = some e →
                  field h.content (o + 1 + 5 * i) 1 = e.1 / 256 % 256
                  ∧ field h.content (o + 2 + 5 * i) 1 = e.1 % 256
                  ∧ field h.content (o + 3 + 5 * i) 1 = e.2.positive % 256
                  ∧ field h.content (o + 4 + 5 * i) 1 = e.2.negative % 256
                  ∧ field h.content (o + 5 + 5 * i) 1 = (if e.2.crossed then 1 else 0)
             ((∀ p, s.csu.test = some p → s.cableOf p.source ≠ c.toNat) → field h.content q 4 = 0 ∧ pairsAt (q + 4))
              ∧ ∀ p, s.csu.test = some p → s.cableOf p.source = c.toNat →
                  field h.content q 1 = 1 ∧ field h.content (q + 1) 1 = p.source % 256
                  ∧ field h.content (q + 2) 1 = p.index % 256 ∧ field h.content (q + 3) 1 = p.sensors.length % 256
                  ∧ pairsAt (q + 4 + 3 * p.sensors.length)
                  ∧ ∀ i x, p.sensors[i]? = some x →
                      field h.content (q + 4 + 3 * i) 1 = x.circuit % 256
                      ∧ field h.content (q + 5 + 3 * i) 1 = x.count % 256
                      ∧ field h.content (q + 6 + 3 * i) 1 = (if x.excluded then 1 else 0)))
      ∧ (∀ (h : HeldRead) (p : Byte), s.li.held = some h → h.kind = 0x05 → h.body = [c, o] → 1 ≤ p.toNat →
          ∃ t, exec (.cableRead c o p) s = .next t ∧ t = { s with li := { s.li with reply := t.li.reply } }
            ∧ (p.toNat < partCount h.content →
                Replied t 0x05 (0#8 :: p :: BitVec.ofNat 8 (partCount h.content)
                  :: (h.content.drop (236 * p.toNat)).take 236))
            ∧ (partCount h.content ≤ p.toNat → Replied t 0x05 [0x12#8, 2#8]))
      ∧ (∀ p : Byte, (∀ h, s.li.held = some h → h.kind ≠ 0x05 ∨ h.body ≠ [c, o]) → 1 ≤ p.toNat →
          ∃ t, exec (.cableRead c o p) s = .next t ∧ t = { s with li := { s.li with reply := t.li.reply } }
            ∧ Replied t 0x05 [0x18#8])
      ∧ (s.cableRec? c.toNat = none → ∃ t, exec (.cableRead c o 0#8) s = .next t ∧ RefusedAt s t 0x05 0)
      ∧ (∀ rec, s.cableRec? c.toNat = some rec → 2 ≤ o.toNat →
          ∃ t, exec (.cableRead c o 0#8) s = .next t ∧ RefusedAt s t 0x05 1))

/-- FAULT_READ: the ENTRIES form counts the entries of a source, or of all sources (whose number is then not read: log 12,
the model's reading), and returns up to 12 of them in the table's order from the starting position, each in 15 bytes, with
the pairs confirmed where CONFLICT is among them, rising by i and then j (log 39, the model's choice); the ROWS form gives
the row's configured, default, floor, maximum and effective severity; a source kind or fault kind outside the codes, a number
out of range and a selector not listed are refused; a later part is sent from the held read, and refused with REFUSED_EMPTY
where none matches, whatever its fields name (log 52, the model's choice); nothing but the LI changes (R132, R183). The rows
of the severity table with their defaults, floors and maxima are those of severityTable, and a row's effective severity is
its default where no record configures it, and else the configured one bounded (R10, R14, R133). -/
def Obligations.FaultReadReply : Prop :=
  (∀ kind row b, rowBounds? kind row = some b ↔ (kind, row, b.default, b.floor, b.max) ∈ severityTable)
  ∧ (∀ (d : DefSet) kind row,
      ∀ b, rowBounds? kind row = some b →
        (tget? d.severities (256 * kind.code + row.code) = none → d.effective kind row = b.default)
        ∧ ∀ cfg, tget? d.severities (256 * kind.code + row.code) = some cfg →
            BoundedTo kind b cfg (d.effective kind row))
  ∧ ∀ (s : State) (k n st : Byte), Hears s →
    ((k = 0xFF#8 ∨ sourceNumberOk k.toNat n.toNat = true) →
      ∃ t h, exec (.faultReadEntries k n st 0#8) s = .next t ∧ t = { s with li := t.li }
        ∧ t.li = { s.li with reply := t.li.reply, held := some h } ∧ h.kind = 0x07 ∧ h.body = [0#8, k, n, st]
        ∧ Replied t 0x07 (0#8 :: 0#8 :: BitVec.ofNat 8 (partCount h.content) :: h.content.take 236)
        ∧ let found := s.fru.table.filter fun e =>
            k = 0xFF#8 ∨ (keySourceCode e.1 = k.toNat ∧ keyNumber e.1 = n.toNat)
          let sent := min 12 (found.length - st.toNat)
          let confirmed := s.cm.pairs.filter fun e => e.2 = 2
          field h.content 0 2 = found.length % 65536 ∧ field h.content 2 1 = sent
          ∧ (∀ i e, i < 12 → found[st.toNat + i]? = some e →
              field h.content (3 + 15 * i) 1 = keySourceCode e.1 % 256
              ∧ field h.content (4 + 15 * i) 1 = keyNumber e.1 % 256
              ∧ field h.content (5 + 15 * i) 1 = keyKindCode e.1 % 256
              ∧ (tget? s.fru.table e.1 = some e.2 →
                  field h.content (6 + 15 * i) 1 = (if e.2.live then 1 else 0) + (if e.2.latched then 2 else 0))
              ∧ field h.content (7 + 15 * i) 4 = e.2.first % 4294967296
              ∧ field h.content (11 + 15 * i) 4 = e.2.last % 4294967296
              ∧ field h.content (15 + 15 * i) 1 = e.2.row.code ∧ field h.content (16 + 15 * i) 1 = e.2.sev.code
              ∧ field h.content (17 + 15 * i) 1 = e.2.partner % 256)
          ∧ ((∀ i e, i < 12 → found[st.toNat + i]? = some e → e.1 ≠ faultKey .junction .conflict) →
              field h.content (3 + 15 * sent) 1 = 0)
          ∧ ((∃ i e, i < 12 ∧ found[st.toNat + i]? = some e ∧ e.1 = faultKey .junction .conflict) →
              confirmed.length ≤ 255 →
              field h.content (3 + 15 * sent) 1 = confirmed.length
              ∧ ∀ i e, confirmed[i]? = some e →
                  field h.content (4 + 15 * sent + 2 * i) 1 = e.1 / 256 % 256
                  ∧ field h.content (5 + 15 * sent + 2 * i) 1 = e.1 % 256))
    ∧ (k ≠ 0xFF#8 → sourceTop? k.toNat = none →
        ∃ t, exec (.faultReadEntries k n st 0#8) s = .next t ∧ RefusedAt s t 0x07 1)
    ∧ (k ≠ 0xFF#8 → (sourceTop? k.toNat).isSome = true → sourceNumberOk k.toNat n.toNat = false →
        ∃ t, exec (.faultReadEntries k n st 0#8) s = .next t ∧ RefusedAt s t 0x07 2)
    ∧ (∀ kind row b, kindOfCode? k.toNat = some kind → rowOfCode? n.toNat = some row → rowBounds? kind row = some b →
        ∃ t h, exec (.faultReadRows k n st 0#8) s = .next t ∧ t = { s with li := t.li }
          ∧ t.li = { s.li with reply := t.li.reply, held := some h } ∧ h.kind = 0x07 ∧ h.body = [1#8, k, n, st]
          ∧ h.content =
              [(match tget? s.dt.live.severities (256 * k.toNat + n.toNat) with
                | some v => BitVec.ofNat 8 v.code
                | none => 0xFF#8),
              BitVec.ofNat 8 b.default.code, BitVec.ofNat 8 b.floor.code, BitVec.ofNat 8 b.max.code,
              BitVec.ofNat 8 (s.dt.live.effective kind row).code]
          ∧ Replied t 0x07 (0#8 :: 0#8 :: 1#8 :: h.content))
    ∧ (kindOfCode? k.toNat = none → ∃ t, exec (.faultReadRows k n st 0#8) s = .next t ∧ RefusedAt s t 0x07 1)
    ∧ (∀ kind, kindOfCode? k.toNat = some kind →
        (∀ row, rowOfCode? n.toNat = some row → rowBounds? kind row = none) →
        ∃ t, exec (.faultReadRows k n st 0#8) s = .next t ∧ RefusedAt s t 0x07 2)
    ∧ (∀ (c : Instr) (form p : Byte),
        ((c = .faultReadEntries k n st p ∧ form = 0#8) ∨ (c = .faultReadRows k n st p ∧ form = 1#8)) → 1 ≤ p.toNat →
        ∃ t, exec c s = .next t ∧ t = { s with li := { s.li with reply := t.li.reply } }
          ∧ ((∀ h, s.li.held = some h → h.kind ≠ 0x07 ∨ h.body ≠ [form, k, n, st]) → Replied t 0x07 [0x18#8])
          ∧ ∀ h, s.li.held = some h → h.kind = 0x07 → h.body = [form, k, n, st] →
              (p.toNat < partCount h.content →
                Replied t 0x07 (0#8 :: p :: BitVec.ofNat 8 (partCount h.content)
                  :: (h.content.drop (236 * p.toNat)).take 236))
              ∧ (partCount h.content ≤ p.toNat → Replied t 0x07 [0x12#8, 4#8]))

/-- RECORD_READ of a group: every field of its record as it stood, the three EXTENDED counts where the format in force is
EXTENDED; with the clear option all nine counts are 0 afterwards and the enables, the formats, the wait latch, the capture
and the tag stand; of a detector: its figures, totals, enables and arming, zeroed likewise; any other source kind, an
undefined number and an option byte above 1 are refused in turn (R166).
RECORD_CONTROL configures the enables and formats of the groups named and the enables of the detectors named, and sets
or clears the recording-active switch; the clearing closes every capture uncounted and disarms every detector; the counts
stand, and the first wrong field in order is refused (R163, R165). -/
def Obligations.RecordReadAndControl : Prop :=
  (
    ∀ (s : State) (n o : Byte), Hears s →
      (∀ r, thas s.dt.live.groups n.toNat = true → tget? s.ru.groups n.toNat = some r → o.toNat ≤ 1 →
        ∃ t body, exec (.recordRead 1#8 n o) s = .next t ∧ Answered s t 0x08 body ∧ t = { s with li := t.li, ru := t.ru }
          ∧ body.length = (if r.extended then 46 else 34) ∧ field body 0 1 = 0
          ∧ field body 1 4 = r.greens.toNat ∧ field body 5 4 = r.greenDs.toNat ∧ field body 9 4 = r.served.toNat
          ∧ field body 13 4 = r.waitDs.toNat ∧ field body 17 2 = r.lastWait % 65536 ∧ field body 19 2 = r.maxWait % 65536
          ∧ field body 21 1 = (if r.cfgEnable then 1 else 0) ∧ field body 22 1 = (if r.cfgExtended then 1 else 0)
          ∧ field body 23 1 = (if r.enable then 1 else 0) ∧ field body 24 1 = (if r.extended then 1 else 0)
          ∧ field body 25 1 = (if r.capture.isSome then 1 else 0)
          ∧ field body 26 4 = (match r.capture with | some c => c.start % 4294967296 | none => 0)
          ∧ field body 30 4 = r.wait.getD 0xFFFFFFFF % 4294967296
          ∧ (r.extended = true → field body 34 4 = r.gapOuts.toNat ∧ field body 38 4 = r.maxOuts.toNat
              ∧ field body 42 4 = r.forced.toNat)
          ∧ tget? t.ru.groups n.toNat = some (if o.toNat = 1 then
              { r with greens := 0, greenDs := 0, served := 0, waitDs := 0, lastWait := 0, maxWait := 0, gapOuts := 0,
                       maxOuts := 0, forced := 0 } else r)
          ∧ (∀ k, k ≠ n.toNat → tget? t.ru.groups k = tget? s.ru.groups k) ∧ t.ru = { s.ru with groups := t.ru.groups })
      ∧ (∀ r, thas s.dt.live.detectors n.toNat = true → tget? s.ru.dets n.toNat = some r → o.toNat ≤ 1 →
        ∃ t body, exec (.recordRead 4#8 n o) s = .next t ∧ Answered s t 0x08 body ∧ t = { s with li := t.li, ru := t.ru }
          ∧ body.length = 25 ∧ field body 0 1 = 0
          ∧ field body 1 2 = r.lastActivations % 65536 ∧ field body 3 2 = r.lastOccupied % 65536
          ∧ field body 5 1 = r.lastOccupancy % 256 ∧ field body 6 4 = r.lastEnd.getD 0xFFFFFFFF % 4294967296
          ∧ field body 10 4 = r.activations.toNat ∧ field body 14 4 = r.occupied.toNat
          ∧ field body 18 4 = r.classCount.toNat ∧ field body 22 1 = (if r.cfgEnable then 1 else 0)
          ∧ field body 23 1 = (if r.enable then 1 else 0) ∧ field body 24 1 = (if r.armed then 1 else 0)
          ∧ tget? t.ru.dets n.toNat = some (if o.toNat = 1 then
              { r with lastActivations := 0, lastOccupied := 0, lastOccupancy := 0, lastEnd := none, activations := 0,
                       occupied := 0, classCount := 0 } else r)
          ∧ (∀ k, k ≠ n.toNat → tget? t.ru.dets k = tget? s.ru.dets k) ∧ t.ru = { s.ru with dets := t.ru.dets })
      ∧ (∀ k : Byte, k ≠ 1#8 → k ≠ 4#8 → ∃ t, exec (.recordRead k n o) s = .next t ∧ RefusedAt s t 0x08 0)
      ∧ (thas s.dt.live.groups n.toNat = false → ∃ t, exec (.recordRead 1#8 n o) s = .next t ∧ RefusedAt s t 0x08 1)
      ∧ (thas s.dt.live.detectors n.toNat = false → ∃ t, exec (.recordRead 4#8 n o) s = .next t ∧ RefusedAt s t 0x08 1)
      ∧ (thas s.dt.live.groups n.toNat = true → 2 ≤ o.toNat →
          ∃ t, exec (.recordRead 1#8 n o) s = .next t ∧ RefusedAt s t 0x08 2)
      ∧ (thas s.dt.live.detectors n.toNat = true → 2 ≤ o.toNat →
          ∃ t, exec (.recordRead 4#8 n o) s = .next t ∧ RefusedAt s t 0x08 2))
    ∧ (
    ∀ (s : State) (o e f de : Byte) (gs ds : GroupSet), Hears s →
      let groupsOk : Prop := ∀ n, inSet gs n = true → thas s.dt.live.groups n = true
      let detsOk : Prop := ∀ n, inSet ds n = true → thas s.dt.live.detectors n = true
      (o.toNat ≤ 2 → groupsOk → e.toNat ≤ 1 → f.toNat ≤ 1 → detsOk → de.toNat ≤ 1 →
        ∃ t, exec (.recordControl o gs e f ds de) s = .next t ∧ Answered s t 0x60 [0#8]
          ∧ t = { s with li := t.li, ru := { s.ru with groups := t.ru.groups, dets := t.ru.dets, active := t.ru.active } }
          ∧ t.ru.active = (if o = 1#8 then true else if o = 2#8 then false else s.ru.active)
          ∧ (∀ g v, tget? s.ru.groups g = some v →
              tget? t.ru.groups g = some { v with
                cfgEnable := if inSet gs g then e == 1#8 else v.cfgEnable
                cfgExtended := if inSet gs g then f == 1#8 else v.cfgExtended
                capture := if o = 2#8 ∧ s.ru.active = true then none else v.capture })
          ∧ ∀ d v, tget? s.ru.dets d = some v →
              tget? t.ru.dets d = some { v with
                cfgEnable := if inSet ds d then de == 1#8 else v.cfgEnable
                armed := if o = 2#8 ∧ s.ru.active = true then false else v.armed })
      ∧ (2 < o.toNat → ∃ t, exec (.recordControl o gs e f ds de) s = .next t ∧ RefusedAt s t 0x60 0)
      ∧ (o.toNat ≤ 2 → ¬ groupsOk → ∃ t, exec (.recordControl o gs e f ds de) s = .next t ∧ RefusedAt s t 0x60 1)
      ∧ (o.toNat ≤ 2 → groupsOk → 2 ≤ e.toNat →
          ∃ t, exec (.recordControl o gs e f ds de) s = .next t ∧ RefusedAt s t 0x60 5)
      ∧ (o.toNat ≤ 2 → groupsOk → e.toNat ≤ 1 → 2 ≤ f.toNat →
          ∃ t, exec (.recordControl o gs e f ds de) s = .next t ∧ RefusedAt s t 0x60 6)
      ∧ (o.toNat ≤ 2 → groupsOk → e.toNat ≤ 1 → f.toNat ≤ 1 → ¬ detsOk →
          ∃ t, exec (.recordControl o gs e f ds de) s = .next t ∧ RefusedAt s t 0x60 7)
      ∧ (o.toNat ≤ 2 → groupsOk → e.toNat ≤ 1 → f.toNat ≤ 1 → detsOk → 2 ≤ de.toNat →
          ∃ t, exec (.recordControl o gs e f ds de) s = .next t ∧ RefusedAt s t 0x60 11))

/-- STORE_STATUS: in a shaped state a body of 101 bytes with the image records, the write in flight with its attempt and
elapsed time, the pending images in serving order with the bytes unused 0, the eight slots with their identities and the
stored identity at their offsets (the elapsed time 0 with no write in flight, and the stored identity 0 while none is
present: log 47, the model's choice); nothing but the LI changes (R43, R178, section 11.8). -/
def Obligations.StoreStatusReply : Prop :=
  ∀ s : State, Hears s → s.Shaped →
    ∃ t body, exec .storeStatus s = .next t ∧ OnlyAnswered s t 0x09 body ∧ body.length = 101
      ∧ (∀ n a, 1 ≤ n → n ≤ 10 → tget? s.stc.areas n = some a →
          field body (4 * n - 3) 1 = a.cond.code ∧ field body (4 * n - 2) 1 = (if a.loadedIntact then 0 else 1)
            ∧ field body (4 * n - 1) 1 = a.mark.code
            ∧ (field body (4 * n) 1 = 1 ↔ ∃ f, s.stc.flight = some f ∧ f.image = n))
      ∧ (∀ f, s.stc.flight = some f → field body 41 1 = f.image % 256
          ∧ field body 42 1 = (match f.attempt with | .none => 0 | .first => 1 | .retry => 2) ∧ field body 43 2 = f.elapsed % 65536)
      ∧ (s.stc.flight = none → field body 41 4 = 0)
      ∧ (let pending := s.stc.areas.filter fun e => e.2.mark ≠ .none
         field body 45 1 = pending.length ∧ (∀ i e, pending[i]? = some e → field body (46 + i) 1 = e.1)
          ∧ ∀ i, pending.length ≤ i → i < 10 → field body (46 + i) 1 = 0)
      ∧ (∀ k x, 1 ≤ k → k ≤ 8 → tget? s.sc.slots k = some x →
          field body (51 + 5 * k) 1 = (match x with | .empty => 0 | .valid _ _ => 1 | .invalid _ _ => 2)
          ∧ field body (52 + 5 * k) 4 = (match x with | .empty => 0 | .valid _ id => id.toNat | .invalid _ id => id.toNat))
      ∧ (s.stc.storedIdentity = none → field body 96 1 = 0 ∧ field body 97 4 = 0)
      ∧ (∀ id, s.stc.storedIdentity = some id → field body 96 1 = 1 ∧ field body 97 4 = id.toNat)

/-- NOTICE_FETCH without the repeat option takes up to 8 notices from the front, each in 9 bytes: a fault notice its source,
kind, first-raised time, partner and flags, live and latched as the table has its key at the fetch; a MODE notice its time
and mode. The overflow mark is reported and cleared exactly when none is left; ATTN follows; the batch with its overflow
report becomes the last batch. With the repeat option the last batch is returned and nothing changes but the LI; an empty one
fetched with an overflow report of yes repeats the yes, the model's choice (log 57) (R169, R170). -/
def Obligations.NoticeFetchReply : Prop :=
  ∀ s : State, Hears s →
    (∃ t body, exec (.noticeFetch 0#8) s = .next t ∧ Answered s t 0x10 body ∧ t = { s with li := t.li, ru := t.ru }
      ∧ t.ru.queue = s.ru.queue.drop 8 ∧ field body 0 1 = 0 ∧ body.length = 4 + 9 * min 8 s.ru.queue.length
      ∧ field body 1 1 = min 8 s.ru.queue.length
      ∧ field body 2 1 = (s.ru.queue.length - 8) % 256
      ∧ (s.ru.queue.length ≤ 8 → t.ru.overflow = false ∧ field body 3 1 = (if s.ru.overflow then 1 else 0)
          ∧ t.ru.attn = false)
      ∧ (8 < s.ru.queue.length → t.ru.overflow = s.ru.overflow ∧ field body 3 1 = 0 ∧ t.ru.attn = true)
      ∧ t.ru.lastOverflow = (decide (s.ru.queue.length ≤ 8) && s.ru.overflow)
      ∧ (∀ i key first partner cleared repeated, i < 8 →
          s.ru.queue[i]? = some (.fault key first partner cleared repeated) →
          field body (4 + 9 * i) 1 = keySourceCode key % 256 ∧ field body (5 + 9 * i) 1 = keyNumber key % 256
          ∧ field body (6 + 9 * i) 1 = keyKindCode key % 256 ∧ field body (7 + 9 * i) 4 = first % 4294967296
          ∧ field body (11 + 9 * i) 1 = partner % 256
          ∧ field body (12 + 9 * i) 1 = (match tget? s.fru.table key with
              | some e => (if e.live then 1 else 0) + (if e.latched then 2 else 0)
              | none => 0) + (if cleared then 4 else 0) + (if repeated then 8 else 0))
      ∧ (∀ i time m, i < 8 → s.ru.queue[i]? = some (.mode time m) →
          field body (4 + 9 * i) 1 = 0 ∧ field body (5 + 9 * i) 1 = 0 ∧ field body (6 + 9 * i) 1 = 0x1A
          ∧ field body (7 + 9 * i) 4 = time % 4294967296 ∧ field body (11 + 9 * i) 1 = m.code
          ∧ field body (12 + 9 * i) 1 = 0)
      ∧ t.ru.lastBatch.flatten = body.drop 4 ∧ t.ru.lastBatch.length = min 8 s.ru.queue.length
      ∧ t.ru.groups = s.ru.groups ∧ t.ru.dets = s.ru.dets ∧ t.ru.active = s.ru.active)
    ∧ (∃ t, exec (.noticeFetch 1#8) s = .next t
        ∧ OnlyAnswered s t 0x10 (0#8 :: BitVec.ofNat 8 s.ru.lastBatch.length :: BitVec.ofNat 8 s.ru.queue.length
            :: (if s.ru.lastOverflow then 1#8 else 0#8) :: s.ru.lastBatch.flatten))
    ∧ ∀ o : Byte, 2 ≤ o.toNat → ∃ t, exec (.noticeFetch o) s = .next t ∧ RefusedAt s t 0x10 0

/-! ### Orders of the host -/

/-- LATCH_CLEAR deletes the matching entries that are not live and replies how many it deleted and how many matching ones
are live; a live entry and every entry that does not match stand, ALL_LOCKED's apart; each wrong field is refused (R131). -/
def Obligations.LatchClearDeletes : Prop :=
  ∀ (s : State) (k n c : Byte), Hears s →
    (sourceNumberOk k.toNat n.toNat = true → (c = 0xFF#8 ∨ (kindOfCode? c.toNat).isSome = true) →
      ∃ t, exec (.latchClear k n c) s = .next t
        ∧ Answered s t 0x11
            [0#8, BitVec.ofNat 8 (s.fru.table.filter fun e => latchMatches k n c e.1 && !e.2.live).length,
             BitVec.ofNat 8 (s.fru.table.filter fun e => latchMatches k n c e.1 && e.2.live).length]
        ∧ apartFromAllLocked t.fru.table
            = (apartFromAllLocked s.fru.table).filter (fun e => e.2.live || !latchMatches k n c e.1)
        ∧ Relocked { s with
            li := t.li
            fru := { s.fru with table := s.fru.table.filter fun e => e.2.live || !latchMatches k n c e.1 } } t)
    ∧ (sourceTop? k.toNat = none → ∃ t, exec (.latchClear k n c) s = .next t ∧ RefusedAt s t 0x11 0)
    ∧ ((sourceTop? k.toNat).isSome = true → sourceNumberOk k.toNat n.toNat = false →
        ∃ t, exec (.latchClear k n c) s = .next t ∧ RefusedAt s t 0x11 1)
    ∧ (sourceNumberOk k.toNat n.toNat = true → c ≠ 0xFF#8 → kindOfCode? c.toNat = none →
        ∃ t, exec (.latchClear k n c) s = .next t ∧ RefusedAt s t 0x11 2)

/-- DEMAND gives every named group that is not in GREEN demand of origin LINK, beside the origins it has, and latches the
wait of each that joins the set; the other groups keep what they had, but for a green that an SC decision ends; a set that
names an undefined group is refused whole (R53, R159). Where it makes the conditions of a stage end hold, the SC's decision
follows at that instant (Ends; R56, R57).
PLAN_SELECT: a slot outside 1..8 is refused, one that is not VALID gives REFUSED_EMPTY; a VALID slot becomes the pending
plan, or clears it where it is the current plan's own; it is taken at once in DARK, START_FLASH, FLASH and SUPPLY_WAIT, and
in RUN with an ACTUATED plan where that plan may be left and is spent or rests; otherwise it stays pending (R62, R63). -/
def Obligations.DemandAndPlanSelect : Prop :=
  (
    ∀ (s : State) (b : GroupSet), Hears s →
      ((∀ n, inSet b n = true → thas s.dt.live.groups n = true) →
        ∃ t u : State, exec (.demand b) s = .next t ∧ Answered s t 0x20 [0#8] ∧ Ends u t ∧ u.li = t.li
          ∧ u = { s with
              li := u.li, sc := { s.sc with demand := u.sc.demand }, ru := { s.ru with groups := u.ru.groups } }
          ∧ (∀ g, tget? u.sc.demand g =
              if inSet b g = true ∧ s.isGreen g = false then
                some { (tget? s.sc.demand g).getD ⟨false, false, false⟩ with link := true }
              else tget? s.sc.demand g)
          ∧ (∀ g v, tget? s.ru.groups g = some v → tget? u.ru.groups g = some
              (if inSet b g = true ∧ s.isGreen g = false ∧ tget? s.sc.demand g = none
               then { v with wait := some (v.wait.getD s.uptime) } else v))
          ∧ (∀ g, inSet b g = true → s.isGreen g = false →
              tget? t.sc.demand g = some { (tget? s.sc.demand g).getD ⟨false, false, false⟩ with link := true })
          ∧ (∀ g, inSet b g = false → s.isGreen g = false → tget? t.sc.demand g = tget? s.sc.demand g)
          ∧ (∀ g, s.isGreen g = true → t.isGreen g = true → tget? t.sc.demand g = tget? s.sc.demand g)
          ∧ (∀ g v, s.isGreen g = false → tget? s.ru.groups g = some v →
              tget? t.ru.groups g = some
                (if inSet b g = true ∧ tget? s.sc.demand g = none
                 then { v with wait := some (v.wait.getD s.uptime) } else v))
          ∧ ∀ g v, s.isGreen g = true → t.isGreen g = true → tget? s.ru.groups g = some v →
              ∃ tag, tget? t.ru.groups g = some { v with tag := tag })
      ∧ ((∃ n, inSet b n = true ∧ thas s.dt.live.groups n = false) →
          ∃ t, exec (.demand b) s = .next t ∧ RefusedAt s t 0x20 0))
    ∧ (
    ∀ (s : State) (k : Byte), Hears s →
      ((k.toNat = 0 ∨ 8 < k.toNat) → ∃ t, exec (.planSelect k) s = .next t ∧ RefusedAt s t 0x24 0)
      ∧ (1 ≤ k.toNat → k.toNat ≤ 8 → (∀ p id, tget? s.sc.slots k.toNat ≠ some (.valid p id)) →
          ∃ t, exec (.planSelect k) s = .next t ∧ OnlyAnswered s t 0x24 [0x18#8])
      ∧ (∀ p id, 1 ≤ k.toNat → k.toNat ≤ 8 → tget? s.sc.slots k.toNat = some (.valid p id) →
          let named : Option Nat := if s.sc.current = some k.toNat then none else some k.toNat
          ∃ t, exec (.planSelect k) s = .next t ∧ Answered s t 0x24 [0#8]
            ∧ (s.fru.mode ∈ [.dark, .startFlash, .flash, .supplyWait] →
                t.sc = { s.sc with current := some k.toNat, pending := none }
                ∧ Ends { s with li := t.li, sc := t.sc } t)
            ∧ (s.fru.mode ∈ [.startRed, .run, .clearing] →
                Ends { s with li := t.li, sc := { s.sc with pending := named } } t
                ∧ ((t.sc.pending = named ∧ t.sc.current = s.sc.current)
                    ∨ (named = some k.toNat ∧ t.sc.current = some k.toNat ∧ t.sc.pending = none)))
            ∧ (s.fru.mode ∈ [.startRed, .run, .clearing] → s.running? .actuated = none →
                t.sc.pending = named ∧ t.sc.current = s.sc.current)
            ∧ ∀ q n cur, s.running? .actuated = some q → s.sc.stage = some n → q.stage? n = some cur →
                s.gs.reportOwed = false →
                ((s.sc.established = true ∧ s.sc.hold = 0 ∧ s.dt.live.stageMin cur ≤ s.sc.elapsed ∧ s.sc.forced = none
                    ∧ named = some k.toNat ∧ (Spent s cur ∨ ∀ m, ¬ IsNext s q n m)) →
                  t.sc.current = some k.toNat ∧ t.sc.pending = none)
                ∧ (¬ (s.sc.established = true ∧ s.sc.hold = 0 ∧ s.dt.live.stageMin cur ≤ s.sc.elapsed
                    ∧ s.sc.forced = none ∧ named = some k.toNat ∧ (Spent s cur ∨ ∀ m, ¬ IsNext s q n m)) →
                  t.sc.pending = named ∧ t.sc.current = s.sc.current)))

/-- HOLD in RUN with an ACTUATED plan sets the HOLD timer to its duration, bounded to 1200 ds with CLAMPED; a duration of 0
is refused, and with no ACTUATED plan running REFUSED_MODE. RELEASE sets the timer to 0 in any mode, and where the conditions
then hold the stage ends at that instant, by R56, R57, R59 and R63 (Ends; R58).
FORCE_STAGE of a stage of the running ACTUATED plan is replied OK in every state of the stage: it stands as the forced stage
until the current stage is established, HOLD is 0 and stage elapsed has reached the stage min; where that is so already it is
requested at once, and while the requested stage is not yet established it stands and nothing else changes (Ends). A stage
the plan lacks is refused, and with no ACTUATED plan running REFUSED_MODE (R59). -/
def Obligations.HoldReleaseAndForceStage : Prop :=
  (
    ∀ (s : State) (d : BitVec 16), Hears s →
      (∀ p, s.running? .actuated = some p → 1 ≤ d.toNat →
        ∃ t, exec (.hold d) s = .next t ∧ Answered s t 0x21 [if 1200 < d.toNat then 1#8 else 0#8]
          ∧ t = { s with li := t.li, sc := { s.sc with hold := min d.toNat 1200 } })
      ∧ (∀ p, s.running? .actuated = some p → d.toNat = 0 → ∃ t, exec (.hold d) s = .next t ∧ RefusedAt s t 0x21 0)
      ∧ (s.running? .actuated = none → ∃ t, exec (.hold d) s = .next t ∧ OnlyAnswered s t 0x21 [0x13#8])
      ∧ ∃ t, exec .release s = .next t ∧ Answered s t 0x22 [0#8] ∧ t.sc.hold = 0
          ∧ Ends { s with li := t.li, sc := { s.sc with hold := 0 } } t)
    ∧ (
    ∀ (s : State) (n : Byte), Hears s →
      (∀ p st, s.running? .actuated = some p → p.stage? n.toNat = some st →
          ∃ t, exec (.forceStage n) s = .next t ∧ Answered s t 0x23 [0#8]
            ∧ Ends { s with li := t.li, sc := { s.sc with forced := some n.toNat } } t
            ∧ (s.gs.reportOwed = true → (∀ set, s.gs.requested = some set → ¬ s.Stands set) → s.sc.established = false →
                t.sc = { s.sc with forced := some n.toNat } ∧ t.gs = s.gs)
            ∧ ∀ k cur, s.sc.stage = some k → p.stage? k = some cur → s.gs.reportOwed = false →
            (s.sc.established = true ∧ s.sc.hold = 0 ∧ s.dt.live.stageMin cur ≤ s.sc.elapsed →
                t.sc.stage = some n.toNat ∧ JustRequested t st.green)
            ∧ (¬ (s.sc.established = true ∧ s.sc.hold = 0 ∧ s.dt.live.stageMin cur ≤ s.sc.elapsed) →
                t.sc = { s.sc with forced := some n.toNat } ∧ t.gs = s.gs))
      ∧ (∀ p, s.running? .actuated = some p → p.stage? n.toNat = none →
          ∃ t, exec (.forceStage n) s = .next t ∧ RefusedAt s t 0x23 0)
      ∧ (s.running? .actuated = none → ∃ t, exec (.forceStage n) s = .next t ∧ OnlyAnswered s t 0x23 [0x13#8]))

/-- SYNC in RUN with a FIXED plan: Δ becomes the host's clock less the module's, modulo the cycle length C, in (−C/2, C/2];
a time of C or more is refused, and with no FIXED plan running REFUSED_MODE; a broadcast is taken under the same
conditions, ignored otherwise, and never replied (R60). -/
def Obligations.SyncSetsDelta : Prop :=
  ∀ (s : State) (h : BitVec 16), s.li.reply = none → s.loading = false →
    (∀ p, s.running? .fixed = some p → h.toNat < p.cycle →
      ∃ e : Int, exec (.sync true h) s = .next { s with sc := { s.sc with delta := e } }
        ∧ (Addressed s → ∃ t, exec (.sync false h) s = .next t ∧ Answered s t 0x25 [0#8]
            ∧ t = { s with li := t.li, sc := { s.sc with delta := e } })
        ∧ (p.cycle : Int) ∣ e - ((h.toNat : Int) - s.sc.clock) ∧ -(p.cycle : Int) < 2 * e ∧ 2 * e ≤ p.cycle)
    ∧ (∀ p, s.running? .fixed = some p → p.cycle ≤ h.toNat →
        (Addressed s → ∃ t, exec (.sync false h) s = .next t ∧ RefusedAt s t 0x25 0) ∧ exec (.sync true h) s = .next s)
    ∧ (s.running? .fixed = none →
        (Addressed s → ∃ t, exec (.sync false h) s = .next t ∧ OnlyAnswered s t 0x25 [0x13#8])
        ∧ exec (.sync true h) s = .next s)

/-! ### Modes -/

/-- MODE_REQUEST DARK from every mode: the junction is DARK with no start request, the contactor is ordered open, and every
channel is commanded OFF; from a mode whose groups run or flash, every group is put at rest (R22, R38, R142, R149). The
greens it ends, and those that a FLASH request ends at the entry to CLEARING, are counted as forced ends (R36, R161).
MODE_REQUEST FLASH: refused with REFUSED_MODE in DARK and SUPPLY_WAIT; START_FLASH becomes FLASH, START_RED and RUN become
CLEARING, CLEARING and FLASH stand; the contactor is not touched (R142). The all-red timer starts at 0 at the entry to
CLEARING exactly where every group is at rest then, and is none otherwise and in every other mode entered (R36, R140). On
leaving RUN the SC's running state is cleared with every extension timer, at the entry to DARK or FLASH a pending plan becomes
current, and the greens that end take their demand (ScMoves; R50, R54, R63); the groups go as GsMoves says, and the MODE notice
follows (ModeNoticed; R167). -/
def Obligations.ModeRequestDarkAndFlash : Prop :=
  (
    ∀ s : State, Hears s →
      ∃ t, exec .modeRequestDark s = .next t ∧ Answered s t 0x30 [0#8] ∧ ModeMoves { s with li := t.li } t .dark
        ∧ t.fru.startRequest = false ∧ t.fru.autoAwaited = false ∧ OpenOrdered s.spc t.spc ∧ AllOff t
        ∧ (s.fru.mode.regime ≠ .allOff → AtRest t ∧ t.gs.requested = none ∧ ForcedEnds s t)
        ∧ (s.fru.mode.regime = .allOff → t.gs = s.gs))
    ∧ (
    ∀ s : State, Hears s →
      (s.fru.mode = .dark ∨ s.fru.mode = .supplyWait →
        ∃ t, exec .modeRequestFlash s = .next t ∧ OnlyAnswered s t 0x30 [0x13#8])
      ∧ (s.fru.mode = .startFlash ∨ s.fru.mode = .flash →
          ∃ t, exec .modeRequestFlash s = .next t ∧ Answered s t 0x30 [0#8] ∧ t.fru.autoAwaited = false
            ∧ ModeMoves { s with li := t.li } t .flash ∧ t.gs = s.gs)
      ∧ (s.fru.mode = .startRed ∨ s.fru.mode = .run ∨ s.fru.mode = .clearing →
          ∃ t, exec .modeRequestFlash s = .next t ∧ Answered s t 0x30 [0#8] ∧ t.fru.autoAwaited = false
            ∧ ModeMoves { s with li := t.li } t .clearing
            ∧ (s.fru.mode ≠ .clearing → t.gs.requested = none ∧ ForcedEnds s t
                ∧ ∀ g, t.aspect? g ≠ some .green ∧ t.aspect? g ≠ some .redAmber)))

/-- MODE_REQUEST RESTART and AUTO_START: refused in turn by the mode, by a live fault of FLASH or above, by a definition
write in flight, and by no plan; taken, the entries of FLASH or above that are not live are deleted, ALL_LOCKED's own entry
judged anew, and in DARK it starts from DARK, in FLASH the mode is START_RED with every group at rest and its green end
stamped (StartsFromDark, RestartsFromFlash; the SC stands where no lockout changes). AUTO_START starts from DARK where its
conditions hold, and does nothing otherwise (R138, R139, R142). -/
def Obligations.RestartAndAutoStart : Prop :=
  ∀ s : State,
    (Hears s → s.fru.mode ≠ .dark → s.fru.mode ≠ .flash →
      ∃ t, exec .modeRequestRestart s = .next t ∧ OnlyAnswered s t 0x30 [0x13#8])
    ∧ (Hears s → (s.fru.mode = .dark ∨ s.fru.mode = .flash) →
      (s.liveAtLeast .flash = true → ∃ t, exec .modeRequestRestart s = .next t ∧ OnlyAnswered s t 0x30 [0x17#8])
      ∧ (s.liveAtLeast .flash = false → s.writing 1 = true →
          ∃ t, exec .modeRequestRestart s = .next t ∧ OnlyAnswered s t 0x30 [0x14#8])
      ∧ (s.liveAtLeast .flash = false → s.writing 1 = false → s.planReady = false →
          ∃ t, exec .modeRequestRestart s = .next t ∧ OnlyAnswered s t 0x30 [0x18#8])
      ∧ (s.liveAtLeast .flash = false → s.writing 1 = false → s.planReady = true →
          ∃ t, exec .modeRequestRestart s = .next t ∧ Answered s t 0x30 [0#8]
            ∧ (s.fru.mode = .dark → StartsFromDark { s with li := t.li } t)
            ∧ (s.fru.mode = .flash → RestartsFromFlash { s with li := t.li } t)))
    ∧ (s.fru.mode = .dark → s.fru.autoAwaited = true → s.planReady = true → s.liveAtLeast .flash = false →
        s.writing 1 = false → ∃ t, exec .autoStart s = .next t ∧ StartsFromDark s t)
    ∧ ((s.fru.mode ≠ .dark ∨ s.fru.autoAwaited = false ∨ s.planReady = false ∨ s.liveAtLeast .flash = true
          ∨ s.writing 1 = true) → exec .autoStart s = .next s)

/-- The passages of the Mode Controller by its timers: START_FLASH to START_RED at start_flash_time, with every group at rest
and stamped; START_RED to RUN at start_red_time with a VALID definition, every red proved (R94, log 18), a plan, the
contactor CLOSED and no live fault of FLASH or above, with stage 1 of a FIXED or an ACTUATED plan requested, and established
at once exactly where it stands already (R33), the SC standing else but for what that entry clears (RunEntered, Requests,
Ends); CLEARING to FLASH once all-red has lasted clear_red_time. Short of the time, or with a condition missing, nothing
happens (R39, R40, R51, R137, R139, R140). -/
def Obligations.TimedPassages : Prop :=
  ∀ (s : State) (j : JunctionRec), s.dt.live.junction = some j →
    (s.fru.mode = .startFlash → j.startFlashTime ≤ s.fru.modeTimer →
      ∃ t, exec .startFlashTimeout s = .next t ∧ ModeMoves s t .startRed ∧ t.fru.modeTimer = 0 ∧ AtRest t
        ∧ ∀ g r, tget? t.gs.groups g = some r → r.greenEnd = s.uptime)
    ∧ (s.fru.mode ≠ .startFlash ∨ s.fru.modeTimer < j.startFlashTime → exec .startFlashTimeout s = .next s)
    ∧ (s.fru.mode = .startRed → j.startRedTime ≤ s.fru.modeTimer → s.dt.valid = true → RedsProved s →
        s.planReady = true → s.spc.contactor = .closed → s.liveAtLeast .flash = false →
        ∃ t, exec .enterRun s = .next t ∧ ModeMoves s t .run ∧ t.sc.pending = none
          ∧ t.sc.current = s.sc.pending.or s.sc.current ∧ t.sc.clock = 0 ∧ t.sc.delta = 0 ∧ t.sc.hold = 0
          ∧ (∀ p id st, tget? s.sc.slots ((s.sc.pending.or s.sc.current).getD 0) = some (.valid p id) → p.stage? 1 = some st →
              ∃ a u, RunEntered s a ∧ Requests a u 1 st (fun _ tag => tag) ∧ Ends u t)
          ∧ ∀ p id st, tget? s.sc.slots (t.sc.current.getD 0) = some (.valid p id) →
              p.mode = .fixed ∨ 0 < s.dt.live.stageMin st → p.stage? 1 = some st →
              t.sc.stage = some 1 ∧ JustRequested t st.green)
    ∧ (s.fru.mode = .startRed → j.startRedTime ≤ s.fru.modeTimer → s.dt.valid = true → RedsProved s →
        s.planReady = true → s.spc.contactor = .closed → s.liveAtLeast .flash = false →
        ∀ p id st g r, tget? s.sc.slots ((s.sc.pending.or s.sc.current).getD 0) = some (.valid p id) →
          p.stage? 1 = some st → inSet st.green g = true → tget? s.gs.groups g = some r → r.lockHeld = false →
          r.aspect ≠ .green →
          ∃ t, exec .enterRun s = .next t ∧ t.fru.mode = .run ∧ t.sc.stage = some 1 ∧ t.sc.established = false
            ∧ t.sc.elapsed = 0 ∧ t.gs.requested = some st.green)
    ∧ (s.fru.mode ≠ .startRed ∨ s.fru.modeTimer < j.startRedTime ∨ ¬ RedsProved s ∨ s.dt.valid = false
          ∨ s.planReady = false ∨ s.spc.contactor ≠ .closed ∨ s.liveAtLeast .flash = true →
        exec .enterRun s = .next s)
    ∧ (∀ n, s.fru.mode = .clearing → s.fru.allRed = some n → j.clearRedTime ≤ n →
        ∃ t, exec .allRedExpired s = .next t ∧ ModeMoves s t .flash ∧ t.fru.allRed = none ∧ AtRest t
          ∧ t.gs.flashTimer = 0 ∧ t.gs.flashLit = true)
    ∧ (s.fru.mode ≠ .clearing ∨ s.fru.allRed = none ∨ (∃ n, s.fru.allRed = some n ∧ n < j.clearRedTime) →
        exec .allRedExpired s = .next s)

/-! ### Resets and the load -/

/-- HARD_RESET: the straps are read, the junction is DARK with the contactor OPEN and released, no definition, no plan, no
fault, no notice, all counts and uptime 0; the store keeps what its areas hold, beside it what an abandoned write may have
left, with nothing pending or in flight (R137, R149, R157, R164, R171, R176). The mark of a load in progress and the counter
of free values are the model's own (logs 7 and 8), and so are the layout the CRC-32 is computed over (log 29), the instant of
the load as the loaded groups' green end (log 32), and that the stored definition identity is none from the reset until an
image is loaded intact or verified (log 54).
POWER_UP_LOAD, in the mode a hard reset leaves. Each area: whole with its CRC it is INTACT and loaded; with none that passes,
failing or blank, it is DAMAGED and holds nothing; after an abandoned or mismatched write it is either (log 8). The
definition: installed as a commit's with its identity, or DEFINITION_INVALID raised with no record live (and the watch runs
of the unmapped channels then 0 with their raised flags kept: log 55, the model's choice). The reference table:
each circuit takes its entry where the lamp data are its own and is NOMINAL otherwise, with the table to be written again
where an entry was not taken; with no definition it is kept by number; lost, every circuit is NOMINAL, REFERENCES_LOST is
raised and the table is to be written. Each plan slot: EMPTY, or VALID or INVALID by its validation. The fallback slot
becomes current if it is VALID, and auto-start is awaited where the definition has it. Until the load is made no request is
taken; once it is over it does nothing (R1, R49, R50, R102, R138, R177). -/
def Obligations.HardResetAndLoad : Prop :=
  (
    ∀ (s : State) (fast : Bool) (a : BitVec 5),
      ∃ t, exec (.hardReset fast a) s = .next t ∧ t.loading = true ∧ t.uptime = 0 ∧ t.pending = s.pending ∧ t.free = s.free
        ∧ t.li.addrStrap = a ∧ t.li.rateStrap = fast ∧ t.li.reply = none ∧ t.li.held = none ∧ t.li.rxPhase = .hunt
        ∧ t.li.silence = .off ∧ t.dt = ⟨.empty, false, 0, .empty⟩ ∧ t.sc.staging = none ∧ t.sc.current = none
        ∧ t.sc.pending = none ∧ t.gs.groups = [] ∧ t.du.dets = [] ∧ t.pu.circuits = [] ∧ t.csu.lfsr = 0xACE1#16
        ∧ t.fru.mode = .dark ∧ t.fru.startRequest = false ∧ t.fru.table = [] ∧ t.fru.lockout = []
        ∧ t.spc.contactor = .opened ∧ t.spc.drive = false ∧ t.spc.frequency = none
        ∧ t.ru.queue = [] ∧ t.ru.overflow = false ∧ t.ru.attn = false ∧ t.ru.active = true
        ∧ (∀ n c, tget? t.ob.channels n = some c → c = ⟨false, false, 0, 0, false⟩)
        ∧ (∀ k x, tget? t.sc.slots k = some x → x = .empty)
        ∧ (∀ n v, tget? t.ru.groups n = some v → v = GroupService.blank)
        ∧ (∀ n v, tget? t.ru.dets n = some v → v = DetService.blank)
        ∧ t.stc.flight = none ∧ t.stc.storedIdentity = none
        ∧ ∀ n x, tget? s.stc.areas n = some x →
            ∃ y, tget? t.stc.areas n = some y ∧ y.cond = x.cond ∧ y.content = x.content ∧ y.crc = x.crc ∧ y.mark = .none
              ∧ y.torn = x.torn ++ (match s.stc.flight with
                  | some f => if f.image = n then [f.copy] else []
                  | none => []))
    ∧ (
    ∀ s : State,
      (∀ failing : List Nat, s.Shaped → s.loading = true → s.fru.mode = .dark → s.stc.flight = none →
        ∃ t, exec (.powerUpLoad failing) s = .next t ∧ t.loading = false ∧ t.fru.mode = .dark ∧ t.uptime = s.uptime
          ∧ t.pending = s.pending ∧ t.li.addrStrap = s.li.addrStrap
          ∧ (∀ n a, tget? s.stc.areas n = some a → ∃ b, tget? t.stc.areas n = some b ∧ b.torn = []
              ∧ (∀ x, FindsWhole s failing n x →
                  b.cond = .intact ∧ b.content = some x ∧ b.crc = x.crc ∧ b.loadedIntact = true)
              ∧ (FindsNothing s failing n → b.cond = .damaged ∧ b.content = none ∧ b.loadedIntact = false)
              ∧ (n ∉ failing → a.torn ≠ [] →
                  (b.cond = .damaged ∧ b.content = none)
                  ∨ (b.cond = .intact ∧ ∃ x, b.content = some x ∧ (x ∈ a.torn ∨ (a.content = some x ∧ a.crc = x.crc)))))
          ∧ (∀ d id, FindsWhole s failing 1 (.definition d id) →
              t.dt = { s.dt with live := d, valid := true, identity := id } ∧ t.stc.storedIdentity = some id
              ∧ t.isLive .junction .definitionInvalid = false
              ∧ (∀ g rec, tget? d.groups g = some rec → ∃ r, tget? t.gs.groups g = some r ∧ r.aspect = rec.kind.rest
                  ∧ r.greenEnd = s.uptime ∧ r.greenStart = none)
              ∧ (∀ n rec v, tget? d.detectors n = some rec → tget? t.ru.dets n = some v →
                  v.kind = some rec.kind ∧ v.enable = true ∧ v.armed = s.ru.active))
          ∧ (FindsNothing s failing 1 →
              t.dt = { s.dt with live := .empty, valid := false, identity := 0 }
              ∧ t.stc.storedIdentity = s.stc.storedIdentity ∧ t.isLive .junction .definitionInvalid = true
              ∧ t.gs.groups = [] ∧ t.du.dets = [] ∧ t.pu.circuits = []
              ∧ ∀ n c, tget? s.ob.channels n = some c → s.dt.live.mapped? n = none → ∃ c', tget? t.ob.channels n = some c'
                  ∧ c'.above = 0 ∧ c'.below = 0 ∧ c'.raised = c.raised)
          ∧ (∀ d id tb, FindsWhole s failing 1 (.definition d id) → FindsWhole s failing 2 (.references tb) →
              (∀ c rec, tget? d.circuits c = some rec → ∃ r, tget? t.pu.circuits c = some r
                ∧ (∀ e, tget? tb c = some e → e.lamp = rec.lampData →
                    r.reference = e.reference ∧ r.recorded = some e.lamp)
                ∧ ((∀ e, tget? tb c = some e → e.lamp ≠ rec.lampData) →
                    r.reference = rec.nominal ∧ r.recorded = none))
              ∧ ((∃ e ∈ tb, ∀ rec, tget? d.circuits e.1 = some rec → e.2.lamp ≠ rec.lampData) →
                  ∃ f, t.stc.flight = some f ∧ f.image = 2 ∧ f.elapsed = 0)
              ∧ ((∀ e ∈ tb, ∃ rec, tget? d.circuits e.1 = some rec ∧ e.2.lamp = rec.lampData) → t.stc.flight = none))
          ∧ (∀ tb, FindsNothing s failing 1 → FindsWhole s failing 2 (.references tb) → t.pu.kept = tb)
          ∧ (FindsNothing s failing 2 →
              t.isLive .junction .referencesLost = true ∧ t.pu.kept = []
              ∧ (∀ c rec, t.circuitRec? c = some rec →
                  ∃ r, tget? t.pu.circuits c = some r ∧ r.reference = rec.nominal ∧ r.recorded = none)
              ∧ ∃ f, t.stc.flight = some f ∧ f.image = 2 ∧ f.copy = .references [] ∧ f.elapsed = 0)
          ∧ (∀ k, 1 ≤ k → k ≤ 8 →
              (FindsNothing s failing (k + 2) ∨ FindsWhole s failing (k + 2) (.plan none) →
                tget? t.sc.slots k = some .empty)
              ∧ ∀ p id, FindsWhole s failing (k + 2) (.plan (some (p, id))) →
                tget? t.sc.slots k = some (if t.dt.valid = true ∧ validatePlan t.dt.live p = none
                  then .valid p p.computeIdentity else .invalid p p.computeIdentity))
          ∧ t.sc.pending = none
          ∧ (∀ j, t.dt.live.junction = some j → t.fru.autoAwaited = (t.dt.valid && j.autoStart)
              ∧ ((∃ p i, tget? t.sc.slots j.fallback = some (.valid p i)) → t.sc.current = some j.fallback)
              ∧ ((∀ p i, tget? t.sc.slots j.fallback ≠ some (.valid p i)) → t.sc.current = none))
          ∧ (t.dt.live.junction = none → t.fru.autoAwaited = false ∧ t.sc.current = none))
      ∧ (s.loading = true → (∀ c, IsRequest c → exec c s = .next s) ∧ exec .frameReceived s = .next s)
      ∧ (s.loading = false → ∀ failing, exec (.powerUpLoad failing) s = .next s))

/-- SOFT_RESET is replied OK and changes nothing else until its reply has been sent; REPLY_SENT opens the receiver and makes
it owed (R143, R181).
The soft reset: the junction is DARK with the contactor ordered open, the lockout set, the notices of before, the detector
presences and the running plan's state are gone; an INVALID live definition has DEFINITION_INVALID live again (log 40, the
model's inference: R143 empties the table and R1 keeps the fault live until the next commit), what troubles the store is
raised again after it, and nothing else is in the fault table; auto-start is awaited where the live definition is VALID and
its junction record has it, and the silence timer is started (R138, R185); the notices are the change of mode and these
raises; definition, slots, references, episodes, counts, the interval in progress, straps, the store and uptime stand.
Where none is owed nothing happens (R143). -/
def Obligations.SoftResetRepliesThenActs : Prop :=
  (
    ∀ s : State,
      (Hears s → ∃ t, exec .softReset s = .next t ∧ Replied t 0x31 [0#8]
        ∧ t = { s with li := { s.li with reply := t.li.reply, held := none, softReset := .replying } })
      ∧ ∃ t, exec .replySent s = .next t
          ∧ t = { s with li := { s.li with
              reply := none, softReset := if s.li.softReset = .replying then .owed else s.li.softReset } })
    ∧ (
    ∀ s : State,
      (s.li.softReset = .owed →
        ∃ t, exec .softResetAction s = .next t ∧ t.li.softReset = .none ∧ t.li.rxPhase = .hunt ∧ t.li.held = none
          ∧ t.fru.mode = .dark ∧ t.fru.startRequest = false ∧ t.fru.lockout = []
          ∧ (∀ j, s.dt.live.junction = some j → t.fru.autoAwaited = (s.dt.valid && j.autoStart))
          ∧ (s.dt.live.junction = none → t.fru.autoAwaited = false) ∧ SilenceStarts t
          ∧ t.fru.table = (if s.dt.valid = false
              then [(faultKey .junction .definitionInvalid, ⟨true, true, s.uptime, s.uptime, .none, .dark, 0⟩)] else [])
            ++ (if s.stc.troubled = true
              then [(faultKey .junction .storeFault, ⟨true, true, s.uptime, s.uptime, .none, .alarm, 0⟩)] else [])
          ∧ (s.spc.contactor = .closing ∨ s.spc.contactor = .closed → t.spc.contactor = .opening)
          ∧ (s.spc.contactor = .opened ∨ s.spc.contactor = .opening → t.spc.contactor = s.spc.contactor)
          ∧ t.ru.queue = (if s.fru.mode = .dark then [] else [Notice.mode s.uptime .dark])
              ++ (if s.dt.valid = false
                  then [Notice.fault (faultKey .junction .definitionInvalid) s.uptime 0 false false] else [])
              ++ (if s.stc.troubled = true
                  then [Notice.fault (faultKey .junction .storeFault) s.uptime 0 false false] else [])
          ∧ t.du.intervalStart = s.du.intervalStart
          ∧ (∀ d r, tget? s.du.dets d = some r → tget? t.du.dets d = some
              { level := false, raw := r.raw, run := 0, presence := 0, gap := none, absence := 0,
                activations := r.activations, occupied := r.occupied, classCount := r.classCount })
          ∧ t.ru.overflow = false ∧ t.ru.lastBatch = [] ∧ t.ru.dets = s.ru.dets
          ∧ (∀ g v, tget? s.ru.groups g = some v → ∃ w, tget? t.ru.groups g = some w ∧ w.greens = v.greens
              ∧ w.greenDs = v.greenDs ∧ w.served = v.served ∧ w.capture = none)
          ∧ t.sc.slots = s.sc.slots ∧ t.sc.stage = none ∧ t.sc.clock = 0 ∧ t.sc.hold = 0 ∧ t.sc.forced = none
          ∧ (∀ g r, tget? t.gs.groups g = some r → r.greenEnd = s.uptime ∧ r.aspect = (t.kindOf g).rest)
          ∧ (∀ c r, tget? s.pu.circuits c = some r → ∀ rec, s.circuitRec? c = some rec →
              ∃ q, tget? t.pu.circuits c = some q ∧ q.reference = r.reference ∧ q.episodes = r.episodes
                ∧ q.confirmed = .unproven)
          ∧ t.dt = s.dt ∧ t.stc = s.stc ∧ t.uptime = s.uptime ∧ t.pending = s.pending
          ∧ t.li.addrStrap = s.li.addrStrap ∧ t.li.rateStrap = s.li.rateStrap)
      ∧ (s.li.softReset ≠ .owed → exec .softResetAction s = .next s))

/-! ### Learning, cable tests, records -/

/-- LEARN starts learning from nothing on every circuit named, LEARN_CANCEL ends it, and neither touches any other circuit
or field; a set that names an undefined circuit is refused whole (R98, R101).
CABLE_TEST puts a defined cable at the front of the meter's list, or a circuit with cross_test at the front of the
injector's, without a second place for it; any other number is refused (R112, R120). -/
def Obligations.LearnAndCableTestOrders : Prop :=
  (
    ∀ (s : State) (b : CircuitSet), Hears s →
      ((∀ n, inSet b n = true → thas s.dt.live.circuits n = true) →
        (∃ t, exec (.learn b) s = .next t ∧ Answered s t 0x40 [0#8]
          ∧ t = { s with li := t.li, pu := { s.pu with circuits := t.pu.circuits } }
          ∧ ∀ c r, tget? s.pu.circuits c = some r →
              tget? t.pu.circuits c
                = some (if inSet b c then { r with learning := true, learnCount := 0, learnSum := 0 } else r))
        ∧ ∃ t, exec (.learnCancel b) s = .next t ∧ Answered s t 0x41 [0#8]
            ∧ t = { s with li := t.li, pu := { s.pu with circuits := t.pu.circuits } }
            ∧ ∀ c r, tget? s.pu.circuits c = some r →
                tget? t.pu.circuits c
                  = some (if inSet b c then { r with learning := false, learnCount := 0, learnSum := 0 } else r))
      ∧ ((∃ n, inSet b n = true ∧ thas s.dt.live.circuits n = false) →
          (∃ t, exec (.learn b) s = .next t ∧ RefusedAt s t 0x40 0)
          ∧ ∃ t, exec (.learnCancel b) s = .next t ∧ RefusedAt s t 0x41 0))
    ∧ (
    ∀ (s : State) (n : Byte), Hears s →
      (thas s.dt.live.cables n.toNat = true → ∃ t, exec (.cableTestLeak n) s = .next t ∧ Answered s t 0x42 [0#8]
        ∧ t = { s with
            li := t.li, csu := { s.csu with leakList := n.toNat :: s.csu.leakList.filter (fun c => c ≠ n.toNat) } })
      ∧ (thas s.dt.live.cables n.toNat = false → ∃ t, exec (.cableTestLeak n) s = .next t ∧ RefusedAt s t 0x42 1)
      ∧ (∀ rec, s.circuitRec? n.toNat = some rec → rec.crossTest = true →
          ∃ t, exec (.cableTestCross n) s = .next t ∧ Answered s t 0x42 [0#8]
            ∧ t = { s with
                li := t.li, csu := { s.csu with crossList := n.toNat :: s.csu.crossList.filter (fun c => c ≠ n.toNat) } })
      ∧ ((∀ rec, s.circuitRec? n.toNat = some rec → rec.crossTest = false) →
          ∃ t, exec (.cableTestCross n) s = .next t ∧ RefusedAt s t 0x42 1))

/-! ### Definitions and plans -/

/-- SUBSTITUTE: only in DARK and FLASH, with no definition write in flight, of a defined circuit and to an unmapped channel
of 1..104; taken, the circuit's record names the channel and nothing else of the definition changes, the identity follows
and is replied, the circuit starts unproven with its reference and episodes, its lamp faults are cleared, and the
definition is to be written (R19, R20, R81). -/
def Obligations.SubstituteMovesCircuit : Prop :=
  ∀ (s : State) (c ch : Byte), Hears s →
    (s.fru.mode ≠ .dark → s.fru.mode ≠ .flash →
      ∃ t, exec (.substitute c ch) s = .next t ∧ OnlyAnswered s t 0x43 [0x13#8])
    ∧ (s.fru.mode = .dark ∨ s.fru.mode = .flash →
      (s.writing 1 = true → ∃ t, exec (.substitute c ch) s = .next t ∧ OnlyAnswered s t 0x43 [0x14#8])
      ∧ (s.writing 1 = false → s.circuitRec? c.toNat = none →
          ∃ t, exec (.substitute c ch) s = .next t ∧ RefusedAt s t 0x43 0)
      ∧ (∀ rec, s.writing 1 = false → s.circuitRec? c.toNat = some rec →
          (ch.toNat = 0 ∨ 104 < ch.toNat ∨ (s.dt.live.mapped? ch.toNat).isSome = true) →
          ∃ t, exec (.substitute c ch) s = .next t ∧ RefusedAt s t 0x43 1)
      ∧ ∀ rec r, s.Shaped → s.writing 1 = false → s.circuitRec? c.toNat = some rec →
          tget? s.pu.circuits c.toNat = some r → 1 ≤ ch.toNat → ch.toNat ≤ 104 → s.dt.live.mapped? ch.toNat = none →
          ∃ t, exec (.substitute c ch) s = .next t ∧ Answered s t 0x43 (0#8 :: le 4 t.dt.identity.toNat)
            ∧ t = { s with li := t.li, dt := t.dt, ob := t.ob, pu := t.pu, csu := t.csu, fru := t.fru, ru := t.ru,
                           stc := t.stc }
            ∧ t.dt = { s.dt with
                live := { s.dt.live with circuits := t.dt.live.circuits }, identity := t.dt.live.computeIdentity }
            ∧ t.circuitRec? c.toNat = some { rec with channel := ch.toNat }
            ∧ (∀ k, k ≠ c.toNat → t.circuitRec? k = s.circuitRec? k)
            ∧ (∃ q, tget? t.pu.circuits c.toNat = some q ∧ q.confirmed = .unproven ∧ q.reference = r.reference
                ∧ q.recorded = r.recorded ∧ q.episodes = r.episodes ∧ q.counter = 0)
            ∧ t.isLive (.circuit c.toNat) .lampPartial = false ∧ t.isLive (.circuit c.toNat) .lampOut = false
            ∧ t.isLive (.circuit c.toNat) .lampOver = false ∧ t.isLive (.circuit c.toNat) .offCurrent = false
            ∧ t.isLive (.channel ch.toNat) .unmappedCurrent = false
            ∧ t.fru = { s.fru with table := t.fru.table } ∧ WriteAsked s t 1)

/-- DEF_CLEAR empties staging; DEF_RECORD puts a record that passes the checks into staging in place of one of its kind and
key, and refuses any other by its length or its first wrong field; the live definition is not touched. The checks: an empty
body, or one not of the length laid down for its kind code, is refused by its length; a kind code not of the seven by the
field at 0; then the fields in layout order against their ranges and the cross-field checks, the first that fails naming its
offset; a body that passes every one is taken, and is laid out again as it was sent (`BodiesRoundTrip`) (R2 to R10,
section 11.7). -/
def Obligations.DefinitionStaging : Prop :=
  ∀ (s : State) (b : List Byte), Hears s →
    (∃ t, exec .defClear s = .next t ∧ Answered s t 0x50 [0#8]
      ∧ t = { s with li := t.li, dt := { s.dt with staging := ⟨none, [], [], [], [], [], []⟩ } })
    ∧ (∀ r, parseRecord b = .ok r →
        ∃ t, exec (.defRecord b) s = .next t ∧ Answered s t 0x51 [0#8]
          ∧ t = { s with li := t.li, dt := { s.dt with staging := s.dt.staging.insert r } })
    ∧ (parseRecord b = .error .length → ∃ t, exec (.defRecord b) s = .next t ∧ OnlyAnswered s t 0x51 [0x10#8])
    ∧ (∀ off, parseRecord b = .error (.field off) → ∃ t, exec (.defRecord b) s = .next t ∧ RefusedAt s t 0x51 off)
    ∧ (b = [] → parseRecord b = .error .length)
    ∧ ∀ k rest, b = k :: rest →
        (k.toNat = 0 ∨ 8 ≤ k.toNat → parseRecord b = .error (.field 0))
        ∧ ∀ len, 1 ≤ k.toNat → ([17, 11, 13, 5, 17, 7, 4] : List Nat)[k.toNat - 1]? = some len →
            (b.length ≠ len → parseRecord b = .error .length)
            ∧ (b.length = len → AllHold (recordChecks b k.toNat) → ∃ r, parseRecord b = .ok r)
            ∧ (b.length = len → ∀ off, FirstFails (recordChecks b k.toNat) off → parseRecord b = .error (.field off))

/-- DEF_COMMIT: refused in turn by the mode, a definition write in flight, an identity that is not staging's, and the first
check staging fails; taken, staging is live with its identity, every group is at rest and stamped, every circuit is unproven,
and the definition is to be written; it is CLAMPED where a configured severity lies outside its row's bounds (R14).
Every slot is validated against it, EMPTY stays EMPTY, and a current or pending plan that is no longer VALID is dropped (R15,
R49). The demand is that of the recalls and of the substituted detectors alone, the extension state theirs (CommitAtStages:
R16, R74); the records of the detectors, the circuits, the cables and the conflict monitor, the channel watches and the
detectors' service records start anew (CommitAtDetectors, CommitAtCircuits, CommitAtCables, CommitAtMonitor: R66, R79, R104,
R107, R108, R111, R113, R121, R123, R156, R164). A circuit keeps a learned reference whose lamp data are its own and else has
the nominal one, and a reference lost asks for the reference table too (R16); the counts of groups still defined stand, and
of one no longer defined nothing is left (log 42 for its format). Of the fault table an entry goes, with its notice, whose
source is not defined or whose row becomes IGNORE; the others are re-rated and else stand, but for the faults that the commit
clears (log 14 for UNMAPPED_CURRENT), and no entry comes but ALL_LOCKED's (R17). The silence timer starts (R185). Validation
is the six checks in turn: it answers the first that fails with its key, and none only where all hold (log 11 for the order
within check 2, the model's choice) (R12 to R17, R21, R81). -/
def Obligations.DefCommitInstalls : Prop :=
  (∀ (d : DefSet) (v : Invalid), validate d = some v ↔
      CheckFails d (v.kind, v.low, v.high) v.check ∧ ∀ n key, n < v.check → ¬ CheckFails d key n)
  ∧ (∀ d : DefSet, validate d = none ↔ ∀ n key, ¬ CheckFails d key n)
  ∧ (∀ (s : State) (id : BitVec 32), Hears s →
    (s.fru.mode ≠ .dark → s.fru.mode ≠ .flash →
      ∃ t, exec (.defCommit id) s = .next t ∧ OnlyAnswered s t 0x52 [0x13#8])
    ∧ (s.fru.mode = .dark ∨ s.fru.mode = .flash →
      (s.writing 1 = true → ∃ t, exec (.defCommit id) s = .next t ∧ OnlyAnswered s t 0x52 [0x14#8])
      ∧ (s.writing 1 = false → s.dt.staging.computeIdentity ≠ id →
          ∃ t, exec (.defCommit id) s = .next t
            ∧ OnlyAnswered s t 0x52 (0x15#8 :: le 4 s.dt.staging.computeIdentity.toNat))
      ∧ (∀ v, s.writing 1 = false → s.dt.staging.computeIdentity = id → validate s.dt.staging = some v →
          ∃ t, exec (.defCommit id) s = .next t
            ∧ OnlyAnswered s t 0x52 [0x16#8, BitVec.ofNat 8 v.check, BitVec.ofNat 8 v.kind, BitVec.ofNat 8 v.low,
                BitVec.ofNat 8 v.high])
      ∧ (s.Shaped → s.writing 1 = false → s.dt.staging.computeIdentity = id → validate s.dt.staging = none →
          ∃ t, exec (.defCommit id) s = .next t
            ∧ Replied t 0x52 ((if clampsSeverity s.dt.staging then 1#8 else 0#8) :: le 4 id.toNat)
            ∧ t.dt = { live := s.dt.staging, valid := true, identity := id, staging := s.dt.staging }
            ∧ t.fru.mode = s.fru.mode ∧ t.fru.autoAwaited = false ∧ t.spc = s.spc ∧ t.uptime = s.uptime
            ∧ t.pending = s.pending
            ∧ (∀ g rec, tget? s.dt.staging.groups g = some rec →
                ∃ r, tget? t.gs.groups g = some r ∧ r.aspect = rec.kind.rest ∧ r.greenEnd = s.uptime
                  ∧ r.greenStart = none)
            ∧ CommitAtStages s.dt.staging s t ∧ CommitAtDetectors s.dt.staging s t ∧ CommitAtCircuits s.dt.staging s t
            ∧ CommitAtCables s.dt.staging s t ∧ CommitAtMonitor s.dt.staging t
            ∧ (∀ k, (tget? s.sc.slots k = some .empty → tget? t.sc.slots k = some .empty)
                ∧ ∀ p i, tget? s.sc.slots k = some (.valid p i) ∨ tget? s.sc.slots k = some (.invalid p i) →
                  (validatePlan s.dt.staging p = none → tget? t.sc.slots k = some (.valid p i))
                  ∧ (validatePlan s.dt.staging p ≠ none → tget? t.sc.slots k = some (.invalid p i)))
            ∧ (∀ k, (t.sc.current = some k ↔ s.sc.current = some k ∧ ∃ p i, tget? t.sc.slots k = some (.valid p i))
                ∧ (t.sc.pending = some k ↔ s.sc.pending = some k ∧ ∃ p i, tget? t.sc.slots k = some (.valid p i)))
            ∧ (s.dt.valid = false → s.referenceTable = s.pu.kept)
            ∧ (s.dt.valid = true →
                (∀ c q lamp, tget? s.pu.circuits c = some q → q.recorded = some lamp →
                  tget? s.referenceTable c = some ⟨q.reference, lamp⟩)
                ∧ ∀ e ∈ s.referenceTable, ∃ q, (e.1, q) ∈ s.pu.circuits ∧ q.recorded = some e.2.lamp
                    ∧ q.reference = e.2.reference)
            ∧ (∀ c rec, tget? s.dt.staging.circuits c = some rec → ∃ r, tget? t.pu.circuits c = some r
                ∧ (∀ e, tget? s.referenceTable c = some e → e.lamp = rec.lampData →
                    r.reference = e.reference ∧ r.recorded = some e.lamp)
                ∧ ((∀ e, tget? s.referenceTable c = some e → e.lamp ≠ rec.lampData) →
                    r.reference = rec.nominal ∧ r.recorded = none))
            ∧ t.pu.kept = []
            ∧ ((∃ e ∈ s.referenceTable, ∀ rec, tget? s.dt.staging.circuits e.1 = some rec → e.2.lamp ≠ rec.lampData) →
                WriteAsked s t 2)
            ∧ ((∀ e ∈ s.referenceTable, ∃ rec, tget? s.dt.staging.circuits e.1 = some rec ∧ e.2.lamp = rec.lampData) →
                t.stc.markOf 2 = s.stc.markOf 2)
            ∧ (s.FaultsInOrder → ∀ k, k ≠ faultKey .junction .allLocked →
                (tget? s.fru.table k = none → tget? t.fru.table k = none)
                ∧ ∀ e, tget? s.fru.table k = some e →
                  (GoesAtCommit s.dt.staging k e → tget? t.fru.table k = none
                    ∧ ∀ first partner c r, Notice.fault k first partner c r ∉ t.ru.queue)
                  ∧ (¬ GoesAtCommit s.dt.staging k e → ∃ x, tget? t.fru.table k = some x
                    ∧ x = { e with sev := x.sev, live := x.live, last := x.last }
                    ∧ (∀ kind, kindOfCode? (keyKindCode k) = some kind → x.sev = s.dt.staging.effective kind e.row)
                    ∧ (ClearedAtCommit s s.dt.staging k ∧ e.live = true → x.live = false ∧ x.last = s.uptime)
                    ∧ (¬ ClearedAtCommit s s.dt.staging k ∨ e.live = false → x.live = e.live ∧ x.last = e.last)))
            ∧ (s.FaultsInOrder → ∃ stays : Nat → Bool,
                (∀ k, stays k = false ↔ ∃ e, tget? s.fru.table k = some e ∧ GoesAtCommit s.dt.staging k e)
                ∧ noticesApart t.ru.queue = (noticesApart s.ru.queue).filter fun
                    | .fault k _ _ _ _ => stays k
                    | .mode _ _ => true)
            ∧ t.fru.lockout = t.lockoutNow
            ∧ (t.ru.overflow = s.ru.overflow ∨ (t.ru.overflow = true ∧ t.isLive .junction .allLocked = true))
            ∧ (∀ g v, tget? s.ru.groups g = some v → ∃ w, tget? t.ru.groups g = some w
                ∧ (tget? s.dt.staging.groups g = none → w = GroupService.blank)
                ∧ (tget? s.dt.staging.groups g ≠ none → s.groupRec? g ≠ none → w = { v with wait := w.wait })
                ∧ (tget? s.dt.staging.groups g ≠ none → s.groupRec? g = none →
                    w = { GroupService.blank with cfgEnable := true, enable := true, wait := w.wait }))
            ∧ SilenceStarts t
            ∧ WriteAsked s t 1)))
  ∧ ∀ d : DefSet, clampsSeverity d = true ↔ ∃ e ∈ d.severities, ∃ kind row b sev, kindOfCode? (e.1 / 256) = some kind
      ∧ rowOfCode? (e.1 % 256) = some row ∧ rowBounds? kind row = some b ∧ BoundedTo kind b e.2 sev ∧ sev ≠ e.2

/-- PLAN_RECORD puts a plan that passes the checks into plan staging and refuses any other by its length or first wrong
field, the checks being those of R44. PLAN_COMMIT is refused in turn by the slot, an empty staging, a slot in force, a write
in flight, the identity and the validation, which an INVALID live definition fails at check 1 and stage 1 and which otherwise
answers the first of the three checks that fails with its first stage; taken, the slot is VALID with the staged plan, the
others stand, and its image is to be written. The reply is CLAMPED where validation lowers or raises the stage max of a stage
of an ACTUATED plan (R44 to R47). -/
def Obligations.PlanRecordAndCommit : Prop :=
  (∀ b : List Byte,
      (¬ (Between 2 12 (field b 1 1) ∧ b.length = 4 + 9 * field b 1 1) → parsePlan b = .error .length)
      ∧ (Between 2 12 (field b 1 1) → b.length = 4 + 9 * field b 1 1 →
          (AllHold (planChecks b) → ∃ p, parsePlan b = .ok p)
          ∧ ∀ off, FirstFails (planChecks b) off → parsePlan b = .error (.field off)))
  ∧ (∀ (d : DefSet) (p : Plan),
      (∀ c n, validatePlan d p = some (c, n) ↔
        PlanFails d p n c ∧ (∀ m, m < n → ¬ PlanFails d p m c) ∧ ∀ c' m, c' < c → ¬ PlanFails d p m c')
      ∧ (validatePlan d p = none ↔ ∀ c n, ¬ PlanFails d p n c))
  ∧ (∀ (d : DefSet) (p : Plan), clampsPlan d p = true ↔ p.mode = .actuated ∧ ∃ st ∈ p.stages, ∀ m,
      (m = 0 ∨ ∃ e ∈ d.groups, inSet st.green e.1 = true ∧ m = e.2.minGreen) →
      (∀ e ∈ d.groups, inSet st.green e.1 = true → e.2.minGreen ≤ m) → st.maxGreen ≠ max (min st.maxGreen 1200) m)
  ∧ ∀ (s : State) (b : List Byte) (k : Byte) (id : BitVec 32), Hears s →
    (∀ p, parsePlan b = .ok p → ∃ t, exec (.planRecord b) s = .next t ∧ Answered s t 0x53 [0#8]
        ∧ t = { s with li := t.li, sc := { s.sc with staging := some p } })
    ∧ (parsePlan b = .error .length → ∃ t, exec (.planRecord b) s = .next t ∧ OnlyAnswered s t 0x53 [0x10#8])
    ∧ (∀ off, parsePlan b = .error (.field off) → ∃ t, exec (.planRecord b) s = .next t ∧ RefusedAt s t 0x53 off)
    ∧ ((k.toNat = 0 ∨ 8 < k.toNat) → ∃ t, exec (.planCommit k id) s = .next t ∧ RefusedAt s t 0x54 0)
    ∧ (1 ≤ k.toNat → k.toNat ≤ 8 →
      (s.sc.staging = none → ∃ t, exec (.planCommit k id) s = .next t ∧ OnlyAnswered s t 0x54 [0x18#8])
      ∧ ∀ p, s.sc.staging = some p →
        (s.sc.current = some k.toNat ∨ s.sc.pending = some k.toNat →
          ∃ t, exec (.planCommit k id) s = .next t ∧ OnlyAnswered s t 0x54 [0x13#8])
        ∧ (s.sc.current ≠ some k.toNat → s.sc.pending ≠ some k.toNat →
          (s.writing (k.toNat + 2) = true →
            ∃ t, exec (.planCommit k id) s = .next t ∧ OnlyAnswered s t 0x54 [0x14#8])
          ∧ (s.writing (k.toNat + 2) = false → p.computeIdentity ≠ id →
            ∃ t, exec (.planCommit k id) s = .next t
              ∧ OnlyAnswered s t 0x54 (0x15#8 :: le 4 p.computeIdentity.toNat))
          ∧ (s.writing (k.toNat + 2) = false → p.computeIdentity = id → s.dt.valid = false →
            ∃ t, exec (.planCommit k id) s = .next t ∧ OnlyAnswered s t 0x54 [0x16#8, 1#8, 0#8, 1#8, 0#8])
          ∧ (s.writing (k.toNat + 2) = false → p.computeIdentity = id → s.dt.valid = true →
            (∀ c n, validatePlan s.dt.live p = some (c, n) →
              ∃ t, exec (.planCommit k id) s = .next t
                ∧ OnlyAnswered s t 0x54 [0x16#8, BitVec.ofNat 8 c, 0#8, BitVec.ofNat 8 n, 0#8])
            ∧ (validatePlan s.dt.live p = none → s.Shaped →
              ∃ t, exec (.planCommit k id) s = .next t
                ∧ Answered s t 0x54 ((if clampsPlan s.dt.live p then 1#8 else 0#8) :: le 4 id.toNat)
                ∧ t = { s with li := t.li, sc := { s.sc with slots := t.sc.slots }, stc := t.stc }
                ∧ tget? t.sc.slots k.toNat = some (.valid p id)
                ∧ (∀ n, n ≠ k.toNat → tget? t.sc.slots n = tget? s.sc.slots n)
                ∧ WriteAsked s t (k.toNat + 2)))))

/-- PLAN_ERASE: a slot outside 1..8 is refused, the current or pending one gives REFUSED_MODE, one whose image is being
written REFUSED_BUSY; any other, EMPTY or not, becomes EMPTY, the others stand, and its image is to be written (R48). -/
def Obligations.PlanEraseEmpties : Prop :=
  ∀ (s : State) (k : Byte), Hears s →
    ((k.toNat = 0 ∨ 8 < k.toNat) → ∃ t, exec (.planErase k) s = .next t ∧ RefusedAt s t 0x55 0)
    ∧ (1 ≤ k.toNat → k.toNat ≤ 8 → (s.sc.current = some k.toNat ∨ s.sc.pending = some k.toNat) →
        ∃ t, exec (.planErase k) s = .next t ∧ OnlyAnswered s t 0x55 [0x13#8])
    ∧ (1 ≤ k.toNat → k.toNat ≤ 8 → s.sc.current ≠ some k.toNat → s.sc.pending ≠ some k.toNat →
        s.writing (k.toNat + 2) = true → ∃ t, exec (.planErase k) s = .next t ∧ OnlyAnswered s t 0x55 [0x14#8])
    ∧ (1 ≤ k.toNat → k.toNat ≤ 8 → s.sc.current ≠ some k.toNat → s.sc.pending ≠ some k.toNat →
        s.writing (k.toNat + 2) = false → s.Shaped →
        ∃ t, exec (.planErase k) s = .next t ∧ Answered s t 0x55 [0#8]
          ∧ t = { s with li := t.li, sc := { s.sc with slots := t.sc.slots }, stc := t.stc }
          ∧ tget? t.sc.slots k.toNat = some .empty
          ∧ (∀ n, n ≠ k.toNat → tget? t.sc.slots n = tget? s.sc.slots n)
          ∧ WriteAsked s t (k.toNat + 2))

/-! ### Frames and link silence -/

/-- The receiver: while a reply is in progress or the load is not complete it takes no byte; in HUNT it takes A5 hex alone;
in HEADER it takes ADDR, LEN and KIND and hunts again on an address of 80 hex or above or a length above 240; then the
body's bytes and the two of the CRC. A gap inside a frame returns it to HUNT with the frame discarded, unless the frame is
whole (R180). With the receiver closed no frame and no request of the host is received, and a module with no address receives
no request but a broadcast SYNC; what is not received changes nothing and gets nothing (R177, R179, R181). -/
def Obligations.ReceiverTakesBytes : Prop :=
  ∀ (s : State) (b : Byte),
    ((s.li.reply ≠ none ∨ s.loading = true) → exec (.byteReceived b) s = .next s)
    ∧ (s.li.reply = none → s.loading = false →
      (s.li.rxPhase = .hunt → b ≠ 0xA5#8 → exec (.byteReceived b) s = .next s)
      ∧ (s.li.rxPhase = .hunt → b = 0xA5#8 →
          exec (.byteReceived b) s = .next { s with li := { s.li with rxPhase := .header, rxBytes := [] } })
      ∧ (s.li.rxPhase = .header → s.li.rxBytes = [] →
          exec (.byteReceived b) s = .next { s with li :=
            if 0x80 ≤ b.toNat then { s.li with rxPhase := .hunt, rxBytes := [] } else { s.li with rxBytes := [b] } })
      ∧ (∀ a, s.li.rxPhase = .header → s.li.rxBytes = [a] →
          exec (.byteReceived b) s = .next { s with li :=
            if 240 < b.toNat then { s.li with rxPhase := .hunt, rxBytes := [] } else { s.li with rxBytes := [a, b] } })
      ∧ (∀ a l, s.li.rxPhase = .header → s.li.rxBytes = [a, l] →
          exec (.byteReceived b) s = .next { s with li :=
            { s.li with rxBytes := [a, l, b], rxPhase := if l = 0#8 then .check else .body } })
      ∧ (∀ a l k r, s.li.rxPhase = .body → s.li.rxBytes = a :: l :: k :: r →
          exec (.byteReceived b) s = .next { s with li :=
            { s.li with
              rxBytes := s.li.rxBytes ++ [b]
              rxPhase := if r.length + 1 < l.toNat then .body else .check } })
      ∧ (∀ a l k r, s.li.rxPhase = .check → s.li.rxBytes = a :: l :: k :: r → r.length < l.toNat + 2 →
          exec (.byteReceived b) s = .next { s with li := { s.li with rxBytes := s.li.rxBytes ++ [b] } }))
    ∧ ((s.li.rxPhase ≠ .check ∨ s.li.rxBytes.length < 5 + (s.li.rxBytes.getD 1 0).toNat) →
        exec .frameGapTimeout s = .next { s with li := { s.li with rxPhase := .hunt, rxBytes := [] } })
    ∧ ((s.li.reply ≠ none ∨ s.loading = true) →
        exec .frameReceived s = .next s ∧ ∀ c, IsRequest c → exec c s = .next s)
    ∧ (¬ Addressed s → ∀ c, IsRequest c → (∀ h, c ≠ .sync true h) → exec c s = .next s)

/-- A whole frame that arrived as it was sent, judged (R180, R181): to this module it is answered as its request, each
kind of the catalogue by its own row, after it is heard; a form, mode or test kind of no row is refused at its field; with a
kind outside the catalogue or a wrong length it is refused so; to another address, and to any but the broadcast
address of a module that has none, it is discarded unheard; a broadcast SYNC is heard and carried out unanswered and any other
broadcast is heard and ignored, also by a module without an address (R179); a wrong CRC pair discards the frame. A frame that
is heard finds the link silence timer OFF and leaves it, starts a RUNNING one anew with the whole time, and at an EXPIRED one
clears LINK_SILENT and starts it (R185). -/
def Obligations.FrameIsJudged : Prop :=
  (∀ s : State,
    (s.li.silence = .off → s.heardFrame = s)
    ∧ (s.li.silence = .running → s.heardFrame =
          { s with li := { s.li with silence := s.heardFrame.li.silence, remaining := s.heardFrame.li.remaining } }
        ∧ SilenceStarts s.heardFrame)
    ∧ (s.li.silence = .expired → ∃ u, AfterClear s u .junction .linkSilent ∧ s.heardFrame =
          { u with li := { u.li with silence := s.heardFrame.li.silence, remaining := s.heardFrame.li.remaining } }
        ∧ SilenceStarts s.heardFrame))
  ∧ ∀ (s : State) (a l k : Byte) (b crc : List Byte), s.li.reply = none → s.loading = false →
    s.li.rxPhase = .check → s.li.rxBytes = a :: l :: k :: (b ++ crc) → l.toNat = b.length → crc.length = 2 →
      let h : State := { s with li := { s.li with rxPhase := .hunt, rxBytes := [] } }
      (crc ≠ crcPair (a :: l :: k :: b) → exec .frameReceived s = .next h)
      ∧ (crc = crcPair (a :: l :: k :: b) →
        (a ≠ 0#8 → (¬ Addressed s ∨ a.toNat ≠ s.li.addrStrap.toNat) → exec .frameReceived s = .next h)
        ∧ (a = 0#8 → (k ≠ 0x25#8 ∨ b.length ≠ 2) → exec .frameReceived s = .next h.heardFrame)
        ∧ (∀ x y : Byte, a = 0#8 → k = 0x25#8 → b = [x, y] →
            exec .frameReceived s = exec (.sync true (BitVec.ofNat 16 (x.toNat + 256 * y.toNat))) h.heardFrame)
        ∧ (Addressed s → a.toNat = s.li.addrStrap.toNat →
          (tget? catalogue k.toNat = none →
            ∃ t, exec .frameReceived s = .next t ∧ OnlyAnswered h.heardFrame t k.toNat [0x11#8])
          ∧ (∀ n, tget? catalogue k.toNat = some (.fixed n) → b.length ≠ n →
              ∃ t, exec .frameReceived s = .next t ∧ OnlyAnswered h.heardFrame t k.toNat [0x10#8])
          ∧ (k = 0x01#8 → b = [] → exec .frameReceived s = exec .ident h.heardFrame)
          ∧ (k = 0x02#8 → b = [] → exec .frameReceived s = exec .status h.heardFrame)
          ∧ (∀ x : Byte, k = 0x03#8 → b = [x] →
              exec .frameReceived s = exec (.groupRead x) h.heardFrame)
          ∧ (∀ x y : Byte, k = 0x04#8 → b = [x, y] →
              exec .frameReceived s = exec (.circuitRead x y) h.heardFrame)
          ∧ (∀ x y z : Byte, k = 0x05#8 → b = [x, y, z] →
              exec .frameReceived s = exec (.cableRead x y z) h.heardFrame)
          ∧ (∀ x : Byte, k = 0x06#8 → b = [x] →
              exec .frameReceived s = exec (.detectorRead x) h.heardFrame)
          ∧ (∀ x y z w : Byte, k = 0x07#8 → b = [0#8, x, y, z, w] →
              exec .frameReceived s = exec (.faultReadEntries x y z w) h.heardFrame)
          ∧ (∀ x y z w : Byte, k = 0x07#8 → b = [1#8, x, y, z, w] →
              exec .frameReceived s = exec (.faultReadRows x y z w) h.heardFrame)
          ∧ (∀ x y z : Byte, k = 0x08#8 → b = [x, y, z] →
              exec .frameReceived s = exec (.recordRead x y z) h.heardFrame)
          ∧ (k = 0x09#8 → b = [] → exec .frameReceived s = exec .storeStatus h.heardFrame)
          ∧ (∀ x : Byte, k = 0x10#8 → b = [x] →
              exec .frameReceived s = exec (.noticeFetch x) h.heardFrame)
          ∧ (∀ x y z : Byte, k = 0x11#8 → b = [x, y, z] →
              exec .frameReceived s = exec (.latchClear x y z) h.heardFrame)
          ∧ (k = 0x20#8 → b.length = 4 →
              exec .frameReceived s = exec (.demand (BitVec.ofNat 32 (field b 0 4))) h.heardFrame)
          ∧ (k = 0x21#8 → b.length = 2 → exec .frameReceived s = exec (.hold (BitVec.ofNat 16 (field b 0 2))) h.heardFrame)
          ∧ (k = 0x22#8 → b = [] → exec .frameReceived s = exec .release h.heardFrame)
          ∧ (∀ x : Byte, k = 0x23#8 → b = [x] →
              exec .frameReceived s = exec (.forceStage x) h.heardFrame)
          ∧ (∀ x : Byte, k = 0x24#8 → b = [x] →
              exec .frameReceived s = exec (.planSelect x) h.heardFrame)
          ∧ (k = 0x25#8 → b.length = 2 →
              exec .frameReceived s = exec (.sync false (BitVec.ofNat 16 (field b 0 2))) h.heardFrame)
          ∧ (k = 0x30#8 → b = [0#8] → exec .frameReceived s = exec .modeRequestDark h.heardFrame)
          ∧ (k = 0x30#8 → b = [1#8] → exec .frameReceived s = exec .modeRequestFlash h.heardFrame)
          ∧ (k = 0x30#8 → b = [2#8] → exec .frameReceived s = exec .modeRequestRestart h.heardFrame)
          ∧ (k = 0x31#8 → b = [] → exec .frameReceived s = exec .softReset h.heardFrame)
          ∧ (k = 0x40#8 → b.length = 12 →
              exec .frameReceived s = exec (.learn (BitVec.ofNat 96 (field b 0 12))) h.heardFrame)
          ∧ (k = 0x41#8 → b.length = 12 →
              exec .frameReceived s = exec (.learnCancel (BitVec.ofNat 96 (field b 0 12))) h.heardFrame)
          ∧ (∀ x : Byte, k = 0x42#8 → b = [0#8, x] →
              exec .frameReceived s = exec (.cableTestLeak x) h.heardFrame)
          ∧ (∀ x : Byte, k = 0x42#8 → b = [1#8, x] →
              exec .frameReceived s = exec (.cableTestCross x) h.heardFrame)
          ∧ (∀ x y : Byte, k = 0x43#8 → b = [x, y] →
              exec .frameReceived s = exec (.substitute x y) h.heardFrame)
          ∧ (k = 0x50#8 → b = [] → exec .frameReceived s = exec .defClear h.heardFrame)
          ∧ (k = 0x51#8 → exec .frameReceived s = exec (.defRecord b) h.heardFrame)
          ∧ (k = 0x52#8 → b.length = 4 →
              exec .frameReceived s = exec (.defCommit (BitVec.ofNat 32 (field b 0 4))) h.heardFrame)
          ∧ (k = 0x53#8 → exec .frameReceived s = exec (.planRecord b) h.heardFrame)
          ∧ (k = 0x54#8 → b.length = 5 →
              exec .frameReceived s = exec (.planCommit (b.getD 0 0) (BitVec.ofNat 32 (field b 1 4))) h.heardFrame)
          ∧ (∀ x : Byte, k = 0x55#8 → b = [x] →
              exec .frameReceived s = exec (.planErase x) h.heardFrame)
          ∧ (k = 0x60#8 → b.length = 12 → exec .frameReceived s = exec (.recordControl (b.getD 0 0)
              (BitVec.ofNat 32 (field b 1 4)) (b.getD 5 0) (b.getD 6 0) (BitVec.ofNat 32 (field b 7 4)) (b.getD 11 0))
              h.heardFrame)
          ∧ (∀ v : Byte, k = 0x30#8 → b = [v] → 3 ≤ v.toNat →
              ∃ t, exec .frameReceived s = .next t ∧ RefusedAt h.heardFrame t 0x30 0)
          ∧ (∀ v x : Byte, k = 0x42#8 → b = [v, x] → 2 ≤ v.toNat →
              ∃ t, exec .frameReceived s = .next t ∧ RefusedAt h.heardFrame t 0x42 0)
          ∧ (∀ v x y z : Byte, k = 0x07#8 → b = [v, x, y, z, 0#8] → 2 ≤ v.toNat →
              ∃ t, exec .frameReceived s = .next t ∧ RefusedAt h.heardFrame t 0x07 0)))

/-- LINK_SILENCE_EXPIRY: the running timer at 0 becomes EXPIRED and LINK_SILENT is raised, with the mode its severity gives and
what that change does (RaiseMoves; R135); then, in the order of log 34, HOLD and the forced stage are cleared, no group keeps
demand of origin LINK, and a VALID fallback slot becomes the pending plan or, where it is the current plan, clears it; with
the slot not VALID the pending plan stands (FallsSilent). The step ends as Ends says; at any other time nothing happens (R53,
R64, R185). -/
def Obligations.LinkSilenceActs : Prop :=
  ∀ s : State,
    (s.li.silence = .running → s.li.remaining = 0 →
      ∃ t, exec .linkSilenceExpiry s = .next t ∧ t.li = { s.li with silence := .expired } ∧ t.dt = s.dt ∧ t.stc = s.stc
        ∧ t.du = s.du ∧ t.cm = s.cm ∧ t.uptime = s.uptime ∧ t.pending = s.pending ∧ t.sc.slots = s.sc.slots
        ∧ t.sc.hold = 0 ∧ t.sc.forced = none
        ∧ (s.dt.live.effective .linkSilent .none ≠ .ignore → t.isLive .junction .linkSilent = true)
        ∧ (∀ g o, tget? t.sc.demand g = some o → o.link = false)
        ∧ (∀ k, k ≠ faultKey .junction .linkSilent → k ≠ faultKey .junction .allLocked →
            tget? t.fru.table k = tget? s.fru.table k)
        ∧ (∀ j p id, s.dt.live.junction = some j → tget? s.sc.slots j.fallback = some (.valid p id) →
            t.sc.current = some j.fallback ∨ t.sc.pending = some j.fallback)
        ∧ ∃ u v, RaiseMoves { s with li := { s.li with silence := .expired } } u .linkSilent ∧ FallsSilent u v ∧ Ends v t)
    ∧ (s.li.silence ≠ .running ∨ s.li.remaining ≠ 0 → exec .linkSilenceExpiry s = .next s)

/-! ### The half-cycle close -/

/-- An accepted crossing closes the half-cycle: V is the voltage held at 400, the condition follows V, Vn and the time since
the last crossing, and every channel takes its command, held OFF while unmapped or while CONTACTOR_WELD is latched; a
crossing sooner than half a period is noise. A timed close is due 1.25 periods after the last close, and a period after a
timed one; before the first close after a hard reset both are asked of the elapsed time all the same (logs 9 and 51, the
model's choice) (R144, R145, R152). With the condition the Supply Controller's runs move as RunsMove says, and the contactor
stands unless the close takes the junction to DARK (R146 to R148, R150, R151).
The supply condition: LOST 30 ms or more after the last crossing, or below half of Vn (below 50 V while no definition is
live); otherwise HIGH above 113 % of Vn, NORMAL from 85 %, LOW below (R145). -/
def Obligations.HalfCycleClose : Prop :=
  (
    ∀ (s : State) (e : Nat) (m : Measures),
      let out (t : State) (since : Nat) (timed : Bool) : Prop :=
        t.spc.volts = min m.volts 400 ∧ t.spc.condition = supplyCondition s.dt.live.vn (min m.volts 400) since
          ∧ t.ob.sinceCrossing = since ∧ t.ob.timedRunning = timed ∧ t.dt = s.dt ∧ t.li = s.li ∧ t.du = s.du
          ∧ t.stc = s.stc ∧ t.uptime = s.uptime ∧ t.spc.frequency = s.spc.frequency ∧ RunsMove s.spc t.spc (!timed) e
          ∧ (s.fru.mode = .dark ∨ t.fru.mode ≠ .dark →
              t.spc.contactor = s.spc.contactor ∧ t.spc.drive = s.spc.drive ∧ t.spc.provingTimer = s.spc.provingTimer
              ∧ (s.spc.contactor ≠ .opening → t.spc.lostSeen = s.spc.lostSeen))
          ∧ (∀ ch c, tget? s.ob.channels ch = some c → ∃ c', tget? t.ob.channels ch = some c'
              ∧ (s.weldLatched = false → (s.dt.live.mapped? ch).isSome = true → c'.state = c.command)
              ∧ ((s.dt.live.mapped? ch = none ∨ s.weldLatched = true) → c'.state = false))
      (s.period ≤ 2 * e → ∃ t, exec (.zeroCrossingClose e m) s = .next t ∧ out t 0 false)
      ∧ (2 * e < s.period → exec (.zeroCrossingClose e m) s = .next s)
      ∧ ((if s.ob.timedRunning then s.period ≤ e else 5 * s.period ≤ 4 * e) →
          ∃ t, exec (.timedClose e m) s = .next t ∧ out t (s.ob.sinceCrossing + e) true)
      ∧ ((if s.ob.timedRunning then e < s.period else 4 * e < 5 * s.period) → exec (.timedClose e m) s = .next s))
    ∧ (
    ∀ v n t : Nat, t < 30000 →
      (∀ vn, supplyCondition vn v (t + 30000) = .lost)
      ∧ (supplyCondition (some n) v t = .lost ↔ 2 * v < n)
      ∧ (n ≤ 2 * v → (supplyCondition (some n) v t = .high ↔ 113 * n < 100 * v))
      ∧ (n ≤ 2 * v → (supplyCondition (some n) v t = .low ↔ 100 * v < 85 * n ∧ 100 * v ≤ 113 * n))
      ∧ (supplyCondition none v t = .lost ↔ v < 50)
      ∧ (supplyCondition none v t = .normal ↔ 50 ≤ v))

/-- The Proving Unit at a half-cycle close. Every circuit's showing is whether its channel's current exceeds its off limit.
While the contactor is CLOSED a circuit still settling settles by one; a settled one is evaluated in a NORMAL half-cycle, on
if its channel is ON, off if it is OFF and STEADY; otherwise it is left alone. The half-cycle just ended is handled before a
switch of the channel, which restarts the settling, in every contactor state by the model's inference (log 44): 4 for an
INCANDESCENT circuit on, 2 for an LED on, 2 for off (R82, R83, R85, R86, R97). The unmapped channels' runs above and at or
below 15 mA (R156).
One on evaluation: c is the compensated current, the filter starts at 16 c and then moves an eighth of the way, the lit count
is f L over R rounded half up and at most L, the candidate is OVER above 150 % of the reference, PROVEN with every lamp lit,
PARTIAL with some, OUT with none, and a learning circuit gathers c (R87, R88, R90, R91, R92, R99). -/
def Obligations.ProvingAtClose : Prop :=
  (
    ∀ (s : State) (x : Instr) (m : Measures), s.Shaped → ClosesWith s x m →
      ∃ t, exec x s = .next t
        ∧ (∀ c rec r ch, Wired s c rec → tget? s.pu.circuits c = some r → tget? s.ob.channels rec.channel = some ch →
          let cur := delivered m rec.channel
          let seen : CircuitRun := { r with latestS := cur }
          let off : LampClass := if rec.offLimitMa < cur then .offCurrent else .darkOk
          ∃ j q ch', tget? t.pu.circuits c = some q ∧ tget? t.ob.channels rec.channel = some ch'
            ∧ (s.spc.contactor ≠ .closed → j = r)
            ∧ (s.spc.contactor = .closed → 0 < r.settle → j = { seen with settle := r.settle - 1 })
            ∧ (s.spc.contactor = .closed → r.settle = 0 → t.spc.condition ≠ .normal → j = seen)
            ∧ (s.spc.contactor = .closed → r.settle = 0 → t.spc.condition = .normal →
                (r.channelOn = true → j = seen.onEval rec s.dt.live.k (s.dt.live.vn.getD 1) t.spc.volts cur)
                ∧ (r.channelOn = false → r.flashing = true → j = seen)
                ∧ (r.channelOn = false → r.flashing = false → j = { seen with
                    candidate := some off
                    counter := if r.candidate = some off then min s.dt.live.k (r.counter + 1) else 1 }))
            ∧ (ch'.state = ch.state →
                q = { j with showing := decide (rec.offLimitMa < cur), flashing := q.flashing })
            ∧ (ch'.state ≠ ch.state → q = { j with
                showing := decide (rec.offLimitMa < cur), flashing := q.flashing, channelOn := ch'.state
                settle := if ch'.state = true ∧ rec.lampType = .incandescent then 4 else 2
                firstOn := ch'.state || j.firstOn }))
        ∧ ∀ n ch, tget? s.ob.channels n = some ch → ∃ ch', tget? t.ob.channels n = some ch' ∧ ch'.raised = ch.raised
            ∧ ((s.dt.live.mapped? n).isSome = true → ch'.above = ch.above ∧ ch'.below = ch.below)
            ∧ (s.dt.live.mapped? n = none → 15 < delivered m n →
                ch'.above = min s.dt.live.k (ch.above + 1) ∧ ch'.below = 0)
            ∧ (s.dt.live.mapped? n = none → delivered m n ≤ 15 →
                ch'.above = 0 ∧ ch'.below = min s.dt.live.k (ch.below + 1)))
    ∧ (
    ∀ (r : CircuitRun) (rec : CircuitRec) (k vn volts cur : Nat), 0 < vn → 0 < volts → 0 < r.reference → 0 < rec.lamps →
      let q := r.onEval rec k vn volts cur
      let c := match rec.lampType with | .incandescent => cur * vn / volts | .led => cur * volts / vn
      let f := (q.filter + 8) / 16
      q.latestC = c ∧ q.filter = (if r.firstOn then 16 * c else r.filter - r.filter / 8 + 2 * c) ∧ q.firstOn = false
        ∧ q.lit ≤ rec.lamps
        ∧ 2 * r.reference * q.lit ≤ 2 * f * rec.lamps + r.reference
        ∧ (q.lit < rec.lamps → 2 * f * rec.lamps < 2 * r.reference * q.lit + r.reference)
        ∧ (q.candidate = some .over ↔ 3 * r.reference < 2 * f)
        ∧ (2 * f ≤ 3 * r.reference → (q.candidate = some .proven ↔ q.lit = rec.lamps))
        ∧ (2 * f ≤ 3 * r.reference → (q.candidate = some .out ↔ q.lit = 0))
        ∧ (2 * f ≤ 3 * r.reference → (q.candidate = some .partly ↔ 0 < q.lit ∧ q.lit < rec.lamps))
        ∧ q.counter = (if r.candidate = q.candidate then (if r.counter < k then r.counter + 1 else k) else 1)
        ∧ (r.learning = true ∧ r.learnCount < 32 → q.learnCount = r.learnCount + 1 ∧ q.learnSum = r.learnSum + c)
        ∧ (r.learning = false ∨ 32 ≤ r.learnCount → q.learnCount = r.learnCount ∧ q.learnSum = r.learnSum)
        ∧ q.confirmed = r.confirmed ∧ q.reference = r.reference ∧ q.episodes = r.episodes ∧ q.settle = r.settle
        ∧ q.channelOn = r.channelOn ∧ q.lastOn = r.lastOn ∧ q.lastOff = r.lastOff ∧ q.learning = r.learning
        ∧ q.recorded = r.recorded ∧ q.latestS = r.latestS)

/-- The Conflict Monitor at a half-cycle close. Every shown green end ages by one; with the contactor OPEN that is all.
Otherwise each group's episode moves by whether its GREEN circuit is showing, its flash-green count follows in START_FLASH
and FLASH and is 0 in the other modes, and each pair's confirm count rises to 2 while both groups are shown and is 0
otherwise; in RUN and CLEARING a group that enters showing too soon after a conflicting group's shown green end is an
INTERGREEN_SHORT event that takes the junction to FLASH, a repeated event on its standing entry too (log 13, the model's
inference: a repeated event takes its entry's action); CONFLICT is cleared when the last confirmed pair ceases to be, and
GREEN_IN_FLASH when no group is shown (R123 to R127). The gap length of 0 on entering showing is the model's choice (log 56).
-/
def Obligations.MonitorAtClose : Prop :=
  ∀ (s : State) (x : Instr) (m : Measures), ClosesWith s x m →
    let bridge := 6 * s.closesPerDs
    let ended (r : ShownRun) : Prop := r.episode = .closed ∨ (r.episode = .gap ∧ bridge ≤ r.gapLen)
    ∃ t, exec x s = .next t
      ∧ (s.spc.contactor = .opened → t.cm.pairs = s.cm.pairs
          ∧ ∀ g r, tget? s.cm.groups g = some r →
              tget? t.cm.groups g = some { r with ended := r.ended.map fun a => min 65535 (a + 1) })
      ∧ (s.spc.contactor ≠ .opened →
        (∀ g r, tget? s.cm.groups g = some r →
          let aged := r.ended.map fun a => min 65535 (a + 1)
          let shows : Prop := ∃ c p, s.dt.live.circuitIn? g .green = some c ∧ tget? t.pu.circuits c = some p
            ∧ p.showing = true
          ∃ q, tget? t.cm.groups g = some q ∧ (q.shown = true ↔ shows)
            ∧ (s.fru.mode ≠ .startFlash → s.fru.mode ≠ .flash → q.flashCount = 0)
            ∧ (s.fru.mode = .startFlash ∨ s.fru.mode = .flash →
                q.flashCount = if q.shown then min 2 (r.flashCount + 1) else 0)
            ∧ (ended r → shows → q.episode = .showing ∧ q.run = 1 ∧ q.gapLen = 0 ∧ q.first = true ∧ q.ended = aged)
            ∧ (ended r → ¬ shows → q.episode = r.episode ∧ q.run = r.run ∧ q.gapLen = r.gapLen ∧ q.first = r.first
                ∧ q.ended = aged)
            ∧ (r.episode = .showing → shows →
                q.episode = .showing ∧ q.run = min 65535 (r.run + 1) ∧ q.first = r.first ∧ q.ended = aged)
            ∧ (r.episode = .showing → ¬ shows → q.episode = .gap ∧ q.gapLen = 1 ∧ q.first = false
                ∧ q.ended = (if r.first = true ∨ bridge < r.run then some 0 else aged))
            ∧ (r.episode = .gap → r.gapLen < bridge → shows →
                q.episode = .showing ∧ q.run = 1 ∧ q.first = false ∧ q.ended = aged)
            ∧ (r.episode = .gap → r.gapLen < bridge → ¬ shows →
                q.episode = .gap ∧ q.gapLen = r.gapLen + 1 ∧ q.run = r.run ∧ q.first = r.first ∧ q.ended = aged))
        ∧ (∀ k n, tget? s.cm.pairs k = some n →
            (BothShown t k → tget? t.cm.pairs k = some (min 2 (n + 1)))
            ∧ (¬ BothShown t k → tget? t.cm.pairs k = some 0))
        ∧ (∀ j r, tget? s.cm.groups j = some r → (tkeys s.cm.groups).Nodup →
            let enters : Prop := (∃ q, tget? t.cm.groups j = some q ∧ q.shown = true) ∧ (ended r ∨ r.episode = .gap)
            let short : Prop := ∃ i v q a, (i, v) ∈ s.dt.live.rivals j ∧ tget? t.cm.groups i = some q ∧ q.shown = false
              ∧ q.ended = some a ∧ a + 2 < v * s.closesPerDs
            (enters → short → s.fru.mode = .run ∨ s.fru.mode = .clearing →
              (t.entry? (.group j) .intergreenShort).map (·.last) = some s.uptime
              ∧ (s.entry? (.group j) .intergreenShort = none →
                  t.entry? (.group j) .intergreenShort = some ⟨false, true, s.uptime, s.uptime, .none, .flashNow, 0⟩)
              ∧ ((∀ g e, s.entry? (.group g) .intergreenShort = some e → e.sev = .flashNow) → t.fru.mode = .flash))
            ∧ (¬ (enters ∧ short ∧ (s.fru.mode = .run ∨ s.fru.mode = .clearing)) →
                t.entry? (.group j) .intergreenShort = s.entry? (.group j) .intergreenShort))
        ∧ ((∃ e ∈ s.cm.pairs, e.2 = 2) → (∀ e ∈ t.cm.pairs, e.2 ≠ 2) → t.isLive .junction .conflict = false)
        ∧ ((∀ e ∈ s.cm.pairs, e.2 ≠ 2) ∨ (∃ e ∈ t.cm.pairs, e.2 = 2) →
            t.entry? .junction .conflict = s.entry? .junction .conflict)
        ∧ ((∀ e ∈ t.cm.groups, e.2.shown = false) → t.isLive .junction .greenInFlash = false)
        ∧ ((∃ e ∈ t.cm.groups, e.2.shown = true) →
            t.entry? .junction .greenInFlash = s.entry? .junction .greenInFlash))

/-! ### Proving and conflict supervision -/

/-- CLASS_CONFIRMED: once K evaluations have agreed on a candidate that differs from the confirmed class, it is the
confirmed class; an episode is counted where a failing class follows another last class; PROVEN clears the lamp faults,
DARK_OK clears OFF_CURRENT, and each failing class raises its own fault by the circuit's role and clears the other two.
An episode that takes the counter to the intermittent threshold is an INTERMITTENT event; any other reports none. Short of
K, or with no change, nothing happens (R92, R93, R95, R96). -/
def Obligations.ClassConfirmedReports : Prop :=
  ∀ (s : State) (c : Nat) (r : CircuitRun), tget? s.pu.circuits c = some r →
    (∀ k, r.candidate = some k → s.dt.live.k ≤ r.counter → k ≠ r.confirmed → k ≠ .unproven →
      ∃ t q, exec (.classConfirmed c) s = .next t ∧ tget? t.pu.circuits c = some q ∧ q.confirmed = k
        ∧ q.reference = r.reference ∧ q.filter = r.filter ∧ t.dt = s.dt ∧ t.li = s.li ∧ t.stc = s.stc ∧ t.du = s.du
        ∧ t.uptime = s.uptime
        ∧ q.lastOn = (if k ∈ [.proven, .partly, .out, .over] then some k else r.lastOn)
        ∧ q.lastOff = (if k ∈ [.darkOk, .offCurrent] then some k else r.lastOff)
        ∧ q.episodes = (if (k ∈ [.partly, .out, .over] ∧ r.lastOn ≠ some k) ∨ (k = .offCurrent ∧ r.lastOff ≠ some k)
            then min 255 (r.episodes + 1) else r.episodes)
        ∧ (k = .proven → t.isLive (.circuit c) .lampPartial = false ∧ t.isLive (.circuit c) .lampOut = false
            ∧ t.isLive (.circuit c) .lampOver = false)
        ∧ (k = .darkOk → t.isLive (.circuit c) .offCurrent = false)
        ∧ (k = .out → t.isLive (.circuit c) .lampPartial = false ∧ t.isLive (.circuit c) .lampOver = false
            ∧ (s.dt.live.effective .lampOut (s.dt.live.roleRow c) ≠ .ignore →
                t.isLive (.circuit c) .lampOut = true))
        ∧ (k = .partly → t.isLive (.circuit c) .lampOut = false ∧ t.isLive (.circuit c) .lampOver = false
            ∧ (s.dt.live.effective .lampPartial (s.dt.live.roleRow c) ≠ .ignore →
                t.isLive (.circuit c) .lampPartial = true))
        ∧ (k = .over → t.isLive (.circuit c) .lampPartial = false ∧ t.isLive (.circuit c) .lampOut = false
            ∧ (s.dt.live.effective .lampOver (s.dt.live.roleRow c) ≠ .ignore →
                t.isLive (.circuit c) .lampOver = true))
        ∧ (k = .offCurrent → s.dt.live.effective .offCurrent (s.dt.live.roleRow c) ≠ .ignore →
            t.isLive (.circuit c) .offCurrent = true)
        ∧ (∀ j, s.dt.live.junction = some j → s.dt.live.effective .intermittent .none ≠ .ignore →
            (r.episodes < j.intermittentThreshold → j.intermittentThreshold ≤ q.episodes →
              (t.entry? (.circuit c) .intermittent).map (·.last) = some s.uptime
              ∧ (s.entry? (.circuit c) .intermittent = none →
                  (t.entry? (.circuit c) .intermittent).map (fun e => (e.live, e.latched)) = some (false, true)))
            ∧ (j.intermittentThreshold ≤ r.episodes ∨ q.episodes < j.intermittentThreshold →
                t.entry? (.circuit c) .intermittent = s.entry? (.circuit c) .intermittent)))
    ∧ ((r.candidate = none ∨ r.counter < s.dt.live.k ∨ r.candidate = some r.confirmed) →
        exec (.classConfirmed c) s = .next s)

/-- LEARNING_COMPLETE: at the 32nd value the candidate reference is their mean rounded half up; within 50 to 200 % of
nominal and 20 to 4000 mA it is the reference, recorded with the circuit's lamp data, REFERENCES_LOST is cleared and the
reference table is to be written; otherwise the reference stands and LEARN_REJECTED is an event. Learning is over either
way; before the 32nd value nothing happens (R100, R102). -/
def Obligations.LearningCompletes : Prop :=
  ∀ (s : State) (c : Nat) (rec : CircuitRec) (r : CircuitRun), s.circuitRec? c = some rec →
    tget? s.pu.circuits c = some r →
    (r.learning = true → 32 ≤ r.learnCount →
      ∃ t q, exec (.learningComplete c) s = .next t ∧ tget? t.pu.circuits c = some q ∧ q.learning = false
        ∧ q.learnCount = 0 ∧ q.confirmed = r.confirmed ∧ t.dt = s.dt ∧ t.li = s.li ∧ t.uptime = s.uptime
        ∧ (∀ ref, ref = (r.learnSum + 16) / 32 →
            (rec.nominal ≤ 2 * ref → ref ≤ 2 * rec.nominal → 20 ≤ ref → ref ≤ 4000 → s.Shaped →
              q.reference = ref ∧ q.recorded = some rec.lampData ∧ t.isLive .junction .referencesLost = false
                ∧ WriteAsked s t 2 ∧ t.fru.mode = s.fru.mode ∧ t.gs = s.gs)
            ∧ ((2 * ref < rec.nominal ∨ 2 * rec.nominal < ref ∨ ref < 20 ∨ 4000 < ref) →
              q.reference = r.reference ∧ q.recorded = r.recorded ∧ t.stc = s.stc
                ∧ (s.dt.live.effective .learnRejected .none ≠ .ignore →
                    (t.entry? (.circuit c) .learnRejected).map (·.last) = some s.uptime))))
    ∧ ((r.learning = false ∨ r.learnCount < 32) → exec (.learningComplete c) s = .next s)

/-- The Conflict Monitor's raises: with a pair confirmed CONFLICT is raised, and unless live already the junction goes to
FLASH from every aspect mode, its greens counted as forced ends, and from START_FLASH; with a group shown green twice running
in a flash mode GREEN_IN_FLASH is raised, and unless live already the junction is DARK with the contactor ordered open;
otherwise nothing happens (R125, R127, R133, R135).
SHOWN_EPISODE_CLOSED: an episode in GAP whose gap has lasted the bridge of 6 ds is CLOSED with its run and gap at 0 (the
model's choice: log 56); any other record stands, and so does everything else (R123, R124). -/
def Obligations.MonitorEvents : Prop :=
  (
    ∀ s : State,
      ((∃ e ∈ s.cm.pairs, e.2 = 2) → ∃ t, exec .conflictRaise s = .next t ∧ Raised s t .junction .conflict .none 0
        ∧ (s.isLive .junction .conflict = false →
            (s.fru.mode ∈ [.startFlash, .startRed, .run, .clearing, .flash] → t.fru.mode = .flash)
            ∧ (s.fru.mode ∈ [.startRed, .run, .clearing] → ForcedEnds s t)
            ∧ (s.fru.mode ∈ [.dark, .supplyWait] → t.fru.mode = s.fru.mode)))
      ∧ ((∀ e ∈ s.cm.pairs, e.2 ≠ 2) → exec .conflictRaise s = .next s)
      ∧ ((∃ e ∈ s.cm.groups, e.2.flashCount = 2) →
          ∃ t, exec .greenInFlashRaise s = .next t ∧ Raised s t .junction .greenInFlash .none 0
            ∧ (s.isLive .junction .greenInFlash = false → s.fru.mode ≠ .dark →
                t.fru.mode = .dark ∧ OpenOrdered s.spc t.spc))
      ∧ ((∀ e ∈ s.cm.groups, e.2.flashCount ≠ 2) → exec .greenInFlashRaise s = .next s))
    ∧ (
    ∀ (s : State) (g : Nat),
      ∃ t, exec (.shownEpisodeClosed g) s = .next t ∧ t = { s with cm := { s.cm with groups := t.cm.groups } }
        ∧ (∀ k, k ≠ g → tget? t.cm.groups k = tget? s.cm.groups k)
        ∧ ∀ r, tget? s.cm.groups g = some r →
            tget? t.cm.groups g = some (if r.episode = .gap ∧ 6 * s.closesPerDs ≤ r.gapLen
              then { r with episode := .closed, gapLen := 0, run := 0 } else r))

/-! ### Supply and contactor -/

/-- FREQUENCY_DETECTED and the band events: after four crossing closes 50 Hz where they took 36.7 ms or more and 60 Hz where
they took less, once and for good; SUPPLY_BAND is raised after 1 s of LOW or HIGH closes and cleared after 1 s of NORMAL
ones; otherwise nothing happens (R146, R147).
The unmapped watch's events: at K closes above 15 mA an unmapped channel not raised is raised with UNMAPPED_CURRENT, at
K at or below it a raised one is cleared; a mapped channel, or one short of K, is left alone (R156). -/
def Obligations.FrequencyBandAndUnmappedWatch : Prop :=
  (
    ∀ s : State,
      (s.spc.frequency = none → s.spc.freqCount = 4 →
        exec .frequencyDetected s
          = .next { s with spc := { s.spc with frequency := some (if 36700 ≤ s.spc.freqTime then 50 else 60) } })
      ∧ (s.spc.frequency ≠ none ∨ s.spc.freqCount ≠ 4 → exec .frequencyDetected s = .next s)
      ∧ (s.spc.bandRaised = false → 10 * s.closesPerDs ≤ s.spc.bandRun →
          ∃ t, exec .supplyBandRaise s = .next t
            ∧ Raised { s with spc := { s.spc with bandRaised := true } } t .junction .supplyBand .none 0)
      ∧ (s.spc.bandRaised = true ∨ s.spc.bandRun < 10 * s.closesPerDs → exec .supplyBandRaise s = .next s)
      ∧ (s.spc.bandRaised = true → 10 * s.closesPerDs ≤ s.spc.normalRun →
          ∃ t, exec .supplyBandClear s = .next t
            ∧ AfterClear { s with spc := { s.spc with bandRaised := false } } t .junction .supplyBand)
      ∧ (s.spc.bandRaised = false ∨ s.spc.normalRun < 10 * s.closesPerDs → exec .supplyBandClear s = .next s))
    ∧ (
    ∀ (s : State) (ch : Nat) (c : Channel), tget? s.ob.channels ch = some c →
      (s.dt.live.mapped? ch = none → c.raised = false → s.dt.live.k ≤ c.above →
        ∃ t u, exec (.unmappedCurrentRaise ch) s = .next t
          ∧ u = { s with ob := { s.ob with channels := tupd s.ob.channels ch fun x => { x with raised := true } } }
          ∧ Raised u t (.channel ch) .unmappedCurrent .none 0)
      ∧ ((s.dt.live.mapped? ch ≠ none ∨ c.raised = true ∨ c.above < s.dt.live.k) →
          exec (.unmappedCurrentRaise ch) s = .next s)
      ∧ (s.dt.live.mapped? ch = none → c.raised = true → s.dt.live.k ≤ c.below →
        ∃ t u, exec (.unmappedCurrentClear ch) s = .next t
          ∧ u = { s with ob := { s.ob with channels := tupd s.ob.channels ch fun x => { x with raised := false } } }
          ∧ AfterClear u t (.channel ch) .unmappedCurrent)
      ∧ ((s.dt.live.mapped? ch ≠ none ∨ c.raised = false ∨ c.below < s.dt.live.k) →
          exec (.unmappedCurrentClear ch) s = .next s))

/-- SUPPLY_LOST_RAISE: at five LOST closes while CLOSED the loss stands, SUPPLY_LOST is live and the junction waits in
SUPPLY_WAIT with the contactor held and its greens ended and counted as forced, unless it was in DARK; both notices come of
one instant, and where both are new SUPPLY_LOST's joins the queue before the mode's (log 53, the model's choice).
On that entry the SC and the GS go as ModeMoves says: the running state is cleared on leaving RUN and a pending plan taken
(R50, R63). SUPPLY_RETURN: after 2 s of NORMAL closes the loss is over, SUPPLY_LOST is cleared, and SUPPLY_WAIT becomes FLASH
with a live fault of FLASH or above and START_FLASH without; a return that finds another mode, DARK with the contactor
already ordered open among them, changes no mode (R141, R148). -/
def Obligations.SupplyLossAndReturn : Prop :=
  ∀ s : State,
    (s.spc.contactor = .closed → s.spc.lostRun = 5 → s.spc.lossStanding = false →
      ∃ t, exec .supplyLostRaise s = .next t ∧ t.isLive .junction .supplyLost = true
        ∧ t.spc = { s.spc with lossStanding := true } ∧ t.fru.startRequest = s.fru.startRequest
        ∧ t.dt = s.dt ∧ t.li = s.li ∧ t.stc = s.stc ∧ t.du = s.du ∧ t.cm = s.cm
        ∧ (s.LockoutFollows → s.entry? .junction .supplyLost = none → s.ru.queue = [] → s.fru.mode ≠ .dark →
            s.fru.mode ≠ .supplyWait → t.ru.queue =
              [.fault (faultKey .junction .supplyLost) s.uptime 0 false false, .mode s.uptime .supplyWait])
        ∧ (s.fru.mode ≠ .dark → t.fru.mode = .supplyWait ∧ AllOff t ∧ (s.fru.mode.regime ≠ .allOff → ForcedEnds s t))
        ∧ (s.fru.mode = .dark → t.fru.mode = .dark)
        ∧ ∃ u, RaiseMoves { s with spc := { s.spc with lossStanding := true } } u .supplyLost
            ∧ ModeMoves u t (if s.fru.mode = .dark then .dark else .supplyWait))
    ∧ (s.spc.contactor ≠ .closed ∨ s.spc.lostRun ≠ 5 ∨ s.spc.lossStanding = true →
        exec .supplyLostRaise s = .next s)
    ∧ (s.spc.lossStanding = true → 20 * s.closesPerDs ≤ s.spc.returnRun →
      ∃ t, exec .supplyReturn s = .next t ∧ t.isLive .junction .supplyLost = false
        ∧ t.spc = { s.spc with lossStanding := false, lostRun := 0, returnRun := 0 }
        ∧ t.dt = s.dt ∧ t.li = s.li ∧ t.stc = s.stc ∧ t.du = s.du ∧ t.cm = s.cm
        ∧ (s.fru.mode = .supplyWait →
            t.fru.mode = (if t.liveAtLeast .flash = true then .flash else .startFlash) ∧ AtRest t
              ∧ t.gs.flashTimer = 0 ∧ t.gs.flashLit = true)
        ∧ (s.fru.mode ≠ .supplyWait → t.fru.mode = s.fru.mode)
        ∧ ∃ u, AfterClear { s with spc := { s.spc with lossStanding := false, lostRun := 0, returnRun := 0 } } u
              .junction .supplyLost
            ∧ (s.fru.mode = .supplyWait → ModeMoves u t (if t.liveAtLeast .flash = true then .flash else .startFlash))
            ∧ (s.fru.mode ≠ .supplyWait → Ends u t))
    ∧ (s.spc.lossStanding = false ∨ s.spc.returnRun < 20 * s.closesPerDs →
        exec .supplyReturn s = .next s)

/-- The contactor's proving of a close. CONTACTOR_CLOSE_PROVED: at four NORMAL closes in CLOSING it is CLOSED, every circuit
restarts its settling as at a switch to the state it stands in (R83), the start request is spent, and a junction in DARK goes
to START_FLASH, to FLASH with a live fault of FLASH or above, or stays and opens again with one of DARK. CONTACTOR_NO_CLOSE:
with 300 ms run out it is OPEN, the fault is live and the start request cleared (R83, R139, R150). -/
def Obligations.ContactorCloseProving : Prop :=
  ∀ s : State,
    (s.spc.contactor = .closing → s.spc.provingRun = 4 →
      ∃ t, exec .contactorCloseProved s = .next t ∧ t.fru.startRequest = false ∧ t.fru.table = s.fru.table
        ∧ t.dt = s.dt ∧ t.li = s.li ∧ t.stc = s.stc ∧ t.du = s.du ∧ t.cm = s.cm
        ∧ (s.fru.mode = .dark → s.liveAtLeast .dark = false →
            t.spc = { s.spc with contactor := .closed, drive := true }
              ∧ t.fru.mode = (if s.liveAtLeast .flash = true then .flash else .startFlash))
        ∧ (s.fru.mode = .dark → s.liveAtLeast .dark = true →
            t.fru.mode = .dark ∧ t.spc.contactor = .opening ∧ t.spc.drive = false)
        ∧ (s.fru.mode ≠ .dark → t.fru.mode = s.fru.mode ∧ t.spc = { s.spc with contactor := .closed, drive := true })
        ∧ ∃ p, SettlingRestarted s p ∧ mannersApart t.pu = mannersApart p
            ∧ (let u : State := { s with
                spc := { s.spc with contactor := .closed, drive := true }, pu := p
                fru := { s.fru with startRequest := false } }
              (s.fru.mode = .dark → s.liveAtLeast .dark = false →
                  ModeMoves u t (if s.liveAtLeast .flash = true then .flash else .startFlash))
              ∧ (s.fru.mode = .dark → s.liveAtLeast .dark = true → Ends { u with spc := t.spc } t
                  ∧ OpenOrdered u.spc t.spc)
              ∧ (s.fru.mode ≠ .dark → Ends u t)))
    ∧ (s.spc.contactor ≠ .closing ∨ s.spc.provingRun ≠ 4 → exec .contactorCloseProved s = .next s)
    ∧ (s.spc.contactor = .closing → 300 ≤ s.spc.provingTimer → s.spc.provingRun < 4 →
      ∃ t, exec .contactorNoClose s = .next t ∧ t.spc.contactor = .opened ∧ t.spc.drive = false
        ∧ t.fru.startRequest = false ∧ t.isLive .junction .contactorNoClose = true
        ∧ t.dt = s.dt ∧ t.li = s.li ∧ t.stc = s.stc ∧ t.du = s.du ∧ (s.fru.mode = .dark → t.fru.mode = .dark))
    ∧ (s.spc.contactor ≠ .closing ∨ s.spc.provingTimer < 300 ∨ 4 ≤ s.spc.provingRun →
        exec .contactorNoClose s = .next s)

/-- The contactor's proving of an opening and its watch in OPEN; the mark of a LOST close seen and the timer's 5 ms steps are
the model's own choice (log 17). CONTACTOR_OPEN_PROVED: with a LOST close seen in OPENING it is OPEN, with the conflict
monitor at rest, each episode closed and a showing green stamped, every confirm and flash-green count 0 (the run length, gap
length and first run of a closed episode are the model's choice: log 56). CONTACTOR_WELD: with 300 ms run out and none seen
it is OPEN and the weld is latched. LIVE_BUS_IN_OPEN: 300 ms of live bus in OPEN raises the weld. DEAD_BUS_PROVED: five LOST
closes in OPEN clear both contactor faults. A start request standing in DARK orders the close at once where no weld is
latched (R128, R139, R149 to R151). -/
def Obligations.ContactorOpenProving : Prop :=
  ∀ s : State,
    (s.spc.contactor = .opening → s.spc.lostSeen = true →
      ∃ t, exec .contactorOpenProved s = .next t ∧ t.dt = s.dt ∧ t.li = s.li ∧ t.stc = s.stc ∧ t.du = s.du
        ∧ t.fru.mode = s.fru.mode ∧ t.spc.liveRun = 0 ∧ t.spc.deadRun = 0 ∧ t.spc.lossStanding = false
        ∧ (∀ g r, tget? s.cm.groups g = some r → tget? t.cm.groups g = some
            { shown := false, episode := .closed, run := 0, gapLen := 0, first := false
              ended := if r.episode = .showing then some 0 else r.ended, flashCount := 0 })
        ∧ tkeys t.cm.groups = tkeys s.cm.groups ∧ tkeys t.cm.pairs = tkeys s.cm.pairs ∧ (∀ e ∈ t.cm.pairs, e.2 = 0)
        ∧ t.isLive .junction .conflict = false ∧ t.isLive .junction .greenInFlash = false
        ∧ (s.fru.mode = .dark → s.fru.startRequest = true → s.weldLatched = false → t.spc.contactor = .closing)
        ∧ (s.fru.mode ≠ .dark ∨ s.fru.startRequest = false ∨ s.weldLatched = true →
            t.spc.contactor = .opened ∧ t.spc.drive = false))
    ∧ (s.spc.contactor ≠ .opening ∨ s.spc.lostSeen = false → exec .contactorOpenProved s = .next s)
    ∧ (s.spc.contactor = .opening → 300 ≤ s.spc.provingTimer → s.spc.lostSeen = false → s.fru.mode = .dark →
      (∀ e, s.entry? .junction .contactorWeld = some e → e.live = true → e.latched = true) →
      ∃ t, exec .contactorWeld s = .next t ∧ t.spc.contactor = .opened ∧ t.spc.drive = false ∧ t.fru.mode = .dark
        ∧ t.isLive .junction .contactorWeld = true ∧ t.weldLatched = true ∧ t.fru.startRequest = false
        ∧ t.dt = s.dt ∧ t.li = s.li ∧ t.stc = s.stc ∧ t.du = s.du)
    ∧ (s.spc.contactor ≠ .opening ∨ s.spc.provingTimer < 300 ∨ s.spc.lostSeen = true →
        exec .contactorWeld s = .next s)
    ∧ (s.spc.contactor = .opened → 3 * s.closesPerDs ≤ s.spc.liveRun →
        ∃ t, exec .liveBusInOpen s = .next t ∧ Raised s t .junction .contactorWeld .none 0)
    ∧ (s.spc.contactor ≠ .opened ∨ s.spc.liveRun < 3 * s.closesPerDs → exec .liveBusInOpen s = .next s)
    ∧ (s.spc.contactor = .opened → 5 ≤ s.spc.deadRun →
        ∃ t, exec .deadBusProved s = .next t ∧ t.isLive .junction .contactorNoClose = false
          ∧ t.isLive .junction .contactorWeld = false ∧ t = { s with fru := t.fru, ru := t.ru }
          ∧ t.fru = { s.fru with table := t.fru.table })
    ∧ (s.spc.contactor ≠ .opened ∨ s.spc.deadRun < 5 → exec .deadBusProved s = .next s)

/-! ### Cable supervision -/

/-- LOOP_APPLICATION: an application that has fallen due on a dark-settled circuit is made, and its result (CONTINUOUS below
2 kilohm, OPEN above 20, INDETERMINATE between or where the bias was not clean) goes to the circuit's run timers alone;
one due on a circuit that has switched on is INDETERMINATE; where none is due nothing happens (R105, R106, R154).
CABLE_OPEN is raised against a circuit, rated by its role, when its OPEN results have run to the cable raise time, and
cleared when its CONTINUOUS ones have run to the cable clear time; at any other value nothing happens (R106). -/
def Obligations.LoopTesterEvents : Prop :=
  (
    ∀ (s : State) (c ohms : Nat) (clean : Bool) (d : Dark) (r : LoopRun), tget? s.csu.dark c = some d →
      tget? s.csu.loops c = some r →
      (d.due = true → s.darkSettled c = true →
        ∃ t, exec (.loopApplication c ohms clean) s = .next t
          ∧ t = { s with csu := { s.csu with dark := t.csu.dark, loops := t.csu.loops } }
          ∧ tget? t.csu.dark c = some { d with due := false }
          ∧ (∀ k, k ≠ c → tget? t.csu.dark k = tget? s.csu.dark k ∧ tget? t.csu.loops k = tget? s.csu.loops k)
          ∧ (clean = true → ohms < 2000 → tget? t.csu.loops c = some ⟨some .continuous, 0, min 65535 (r.clearRun + 1)⟩)
          ∧ (clean = true → 20000 < ohms → tget? t.csu.loops c = some ⟨some .opened, min 65535 (r.openRun + 1), 0⟩)
          ∧ (clean = false ∨ (2000 ≤ ohms ∧ ohms ≤ 20000) →
              tget? t.csu.loops c = some { r with last := some .indeterminate }))
      ∧ (d.due = true → s.circuitIsOn c = true →
          ∃ t, exec (.loopApplication c ohms clean) s = .next t
            ∧ t = { s with csu := { s.csu with dark := t.csu.dark, loops := t.csu.loops } }
            ∧ tget? t.csu.loops c = some { r with last := some .indeterminate })
      ∧ (d.due = false → exec (.loopApplication c ohms clean) s = .next s))
    ∧ (
    ∀ (s : State) (c : Nat) (j : JunctionRec) (r : LoopRun), s.dt.live.junction = some j →
      tget? s.csu.loops c = some r →
      (r.openRun = j.cableRaiseTime → ∃ t, exec (.cableOpenRaise c) s = .next t
          ∧ Raised s t (.circuit c) .cableOpen (s.dt.live.roleRow c) 0)
      ∧ (r.openRun ≠ j.cableRaiseTime → exec (.cableOpenRaise c) s = .next s)
      ∧ (r.clearRun = j.cableClearTime →
          ∃ t, exec (.cableOpenClear c) s = .next t ∧ AfterClear s t (.circuit c) .cableOpen)
      ∧ (r.clearRun ≠ j.cableClearTime → exec (.cableOpenClear c) s = .next s))

/-- The Leakage Meter: free, CLOSED and NORMAL, it takes the front of its priority list, else the first defined cable from
its cursor up through 16 and then from 1, which moves the cursor past it, and none where no cable is defined; after 50
half-cycles the result is their sum over 50, at most 500 mA, and goes to that cable's record alone, at each level adding to
the above streak from the level up, to the below streak under 80 % of it, and setting both to 0 in between; sooner nothing
happens (R109 to R111).
The leakage levels: an above streak of 3 on a level not raised sets its flag and raises LEAK_WARN or LEAK_FAULT, the latter
counted as a crossing; a below streak of 5 clears flag and fault; at any other streak nothing happens (R111). -/
def Obligations.LeakageMeterEvents : Prop :=
  (
    ∀ s : State,
      (s.csu.measuring = none → s.spc.contactor = .closed → s.spc.condition = .normal →
        (∀ c rest, s.csu.leakList = c :: rest →
          exec .leakMeasurementStart s
            = .next { s with csu := { s.csu with measuring := some c, dwelt := 0, residual := 0, leakList := rest } })
        ∧ (∀ c, s.csu.leakList = [] →
          FirstInRound s.csu.leakCursor 16 (fun k => (s.cableRec? k).isSome = true) c →
          exec .leakMeasurementStart s
            = .next { s with csu := { s.csu with
                measuring := some c, dwelt := 0, residual := 0, leakCursor := if c = 16 then 1 else c + 1 } })
        ∧ (s.csu.leakList = [] → (∀ c, 1 ≤ c → c ≤ 16 → s.cableRec? c = none) →
          exec .leakMeasurementStart s = .next s))
      ∧ (s.csu.measuring ≠ none ∨ s.spc.contactor ≠ .closed ∨ s.spc.condition ≠ .normal →
          exec .leakMeasurementStart s = .next s)
      ∧ (∀ c r rec, s.csu.measuring = some c → 50 ≤ s.csu.dwelt → tget? s.csu.leaks c = some r →
          s.cableRec? c = some rec →
          ∃ t q, exec .leakMeasurementComplete s = .next t
            ∧ t = { s with csu := { s.csu with measuring := none, dwelt := 0, residual := 0, leaks := t.csu.leaks } }
            ∧ tget? t.csu.leaks c = some q ∧ (∀ k, k ≠ c → tget? t.csu.leaks k = tget? s.csu.leaks k)
            ∧ q.last = some (min (s.csu.residual / 50) 500) ∧ q.crossings = r.crossings
            ∧ LevelTakes r.warn q.warn rec.warnLevel (min (s.csu.residual / 50) 500)
            ∧ LevelTakes r.fault q.fault rec.faultLevel (min (s.csu.residual / 50) 500))
      ∧ ((s.csu.measuring = none ∨ s.csu.dwelt < 50) → exec .leakMeasurementComplete s = .next s))
    ∧ (
    ∀ (s : State) (c : Nat) (l : LeakLevel) (r : LeakRun), tget? s.csu.leaks c = some r →
      let lvl := match l with | .warn => r.warn | .fault => r.fault
      let kind := match l with | .warn => FaultKind.leakWarn | .fault => FaultKind.leakFault
      (lvl.above = 3 → lvl.raised = false →
        ∃ t u, exec (.leakLevelRaise c l) s = .next t ∧ Raised u t (.cable c) kind .none 0
          ∧ u = { s with csu := { s.csu with leaks := u.csu.leaks } }
          ∧ (∀ k, k ≠ c → tget? u.csu.leaks k = tget? s.csu.leaks k)
          ∧ tget? u.csu.leaks c = some (match l with
              | .warn => { r with warn := { r.warn with raised := true } }
              | .fault => { r with
                  fault := { r.fault with raised := true }, crossings := if r.crossings < 255 then r.crossings + 1 else 255 }))
      ∧ ((lvl.above ≠ 3 ∨ lvl.raised = true) → exec (.leakLevelRaise c l) s = .next s)
      ∧ (lvl.below = 5 →
        ∃ t u, exec (.leakLevelClear c l) s = .next t ∧ AfterClear u t (.cable c) kind
          ∧ u = { s with csu := { s.csu with leaks := u.csu.leaks } }
          ∧ (∀ k, k ≠ c → tget? u.csu.leaks k = tget? s.csu.leaks k)
          ∧ tget? u.csu.leaks c = some (match l with
              | .warn => { r with warn := { r.warn with raised := false } }
              | .fault => { r with fault := { r.fault with raised := false } }))
      ∧ (lvl.below ≠ 5 → exec (.leakLevelClear c l) s = .next s))

/-- PATTERN_TEST_START: with no test in progress, the first eligible circuit of the priority list leaves the list, the others
keeping their places, and is the source of a test of 64 drawn bits over the other dark-settled circuits of its cable, none
counted and none excluded; with none of the list eligible, the source is the first eligible circuit from the cursor up
through 96 and then from 1, which moves the cursor past it; with a test in progress, or no eligible circuit, nothing happens.
A circuit is eligible when it is defined with cross_test and it and another circuit of its cable are dark-settled.
PATTERN_TEST_COMPLETE: after 64 half-cycles each sensor not excluded gives its pair a finding, positive from 56 matches
(R104, R114 to R116, R118).
The crossings: a positive streak of 2 on a pair not crossed makes it crossed and raises CABLE_CROSS against the source, rated
GREEN_INVOLVED where either circuit is a GREEN one, with the sensor as partner; a negative streak of 3 makes it uncrossed,
and with the source's last crossed pair gone the entry is cleared (R118, R119). -/
def Obligations.PatternInjectorEvents : Prop :=
  (
    ∀ s : State,
      (∀ before c later, s.csu.test = none → s.csu.crossList = before ++ c :: later → (∀ x ∈ before, ¬ Eligible s x) →
          Eligible s c → c ∉ later →
        ∃ t p, exec .patternTestStart s = .next t ∧ t.csu.test = some p ∧ TestStarts s c p
          ∧ t = { s with csu := { s.csu with
              crossList := before ++ later, lfsr := t.csu.lfsr, test := t.csu.test } })
      ∧ (∀ c, s.csu.test = none → (∀ x ∈ s.csu.crossList, ¬ Eligible s x) →
          FirstInRound s.csu.crossCursor 96 (Eligible s) c →
        ∃ t p, exec .patternTestStart s = .next t ∧ t.csu.test = some p ∧ TestStarts s c p
          ∧ t = { s with csu := { s.csu with
              crossCursor := if c = 96 then 1 else c + 1, lfsr := t.csu.lfsr, test := t.csu.test } })
      ∧ (s.csu.test ≠ none
            ∨ ((∀ x ∈ s.csu.crossList, ¬ Eligible s x) ∧ ∀ c, 1 ≤ c → c ≤ 96 → ¬ Eligible s c) →
          exec .patternTestStart s = .next s)
      ∧ (∀ p, s.csu.test = some p → 64 ≤ p.index → (p.sensors.map (·.circuit)).Nodup →
        ∃ t, exec .patternTestComplete s = .next t
          ∧ t = { s with csu := { s.csu with test := none, pairs := t.csu.pairs } }
          ∧ ∀ x ∈ p.sensors,
              let old := (tget? s.csu.pairs (256 * p.source + x.circuit)).getD ⟨0, 0, false⟩
              tget? t.csu.pairs (256 * p.source + x.circuit)
                = if x.excluded = true then tget? s.csu.pairs (256 * p.source + x.circuit)
                  else if 56 ≤ x.count then some ⟨min 2 (old.positive + 1), 0, old.crossed⟩
                  else some ⟨0, min 3 (old.negative + 1), old.crossed⟩)
      ∧ ((∀ p, s.csu.test = some p → p.index < 64) → exec .patternTestComplete s = .next s))
    ∧ (
    ∀ (s : State) (a b : Nat) (r : PairRun), tget? s.csu.pairs (256 * a + b) = some r →
      let set (v : Bool) : State :=
        { s with csu := { s.csu with pairs := tupd s.csu.pairs (256 * a + b) fun x => { x with crossed := v } } }
      (r.positive = 2 → r.crossed = false →
        ∃ t, exec (.cableCrossRaise a b) s = .next t
          ∧ Raised (set true) t (.circuit a) .cableCross
              (if (∃ x, s.circuitRec? a = some x ∧ x.role = .green) ∨ (∃ x, s.circuitRec? b = some x ∧ x.role = .green)
                then .greenInvolved else .other) b)
      ∧ ((r.positive ≠ 2 ∨ r.crossed = true) → exec (.cableCrossRaise a b) s = .next s)
      ∧ (r.negative = 3 → r.crossed = true →
        ∃ t, exec (.cableCrossClear a b) s = .next t
          ∧ ((∀ e ∈ (set false).csu.pairs, e.1 / 256 = a → e.2.crossed = false) →
              AfterClear (set false) t (.circuit a) .cableCross)
          ∧ ((∃ e ∈ (set false).csu.pairs, e.1 / 256 = a ∧ e.2.crossed = true) → t = set false))
      ∧ ((r.negative ≠ 3 ∨ r.crossed = false) → exec (.cableCrossClear a b) s = .next s))

/-- The pattern register: its taps are stages 16, 14, 13 and 11 of a register that shifts right; a draw of n bits is n steps
of it, so a draw of a + b bits is a draw of a bits and a draw of b bits from where it left the register. A test draws 64
bits, and draws again until a draw holds 24 to 40 ones, up to the 65th draw (log 31, the model's bound) (R114).
Cable supervision at a half-cycle close. The Leakage Meter adds the residual of a NORMAL half-cycle while CLOSED, and at any
other close abandons its measurement and puts the cable at the front of its list (R110). A circuit's dark age counts the
closes it is OFF, and a switch sets its dark record to 0 (R104). A pattern test matches each sensor not excluded against the
bit of the half-cycle, in which the source's channel drives a pulse where the bit is 1 and it is not ON; a source that
switches ON or flashes aborts it, and a sensor that does is excluded, at the last half-cycle's close too (log 38, the model's
choice) (R116, R117, R155). -/
def Obligations.PatternAndCableAtClose : Prop :=
  (
    (∀ r : BitVec 16, (lfsrStep r).1 = r.getLsbD 0
        ∧ (lfsrStep r).2.getLsbD 15 = ((r.getLsbD 0 ^^ r.getLsbD 2) ^^ (r.getLsbD 3 ^^ r.getLsbD 5))
        ∧ (∀ i, i < 15 → (lfsrStep r).2.getLsbD i = r.getLsbD (i + 1)) ∧ (r ≠ 0 → (lfsrStep r).2 ≠ 0)
        ∧ lfsrBits 0 r = ([], r) ∧ lfsrBits 1 r = ([(lfsrStep r).1], (lfsrStep r).2))
    ∧ (∀ (a b : Nat) (r : BitVec 16),
        lfsrBits (a + b) r = ((lfsrBits a r).1 ++ (lfsrBits b (lfsrBits a r).2).1, (lfsrBits b (lfsrBits a r).2).2))
    ∧ (∀ (r : BitVec 16) (k : Nat), k ≤ 64 →
        let draw (n : Nat) : List Bool := (lfsrBits 64 (lfsrBits (64 * n) r).2).1
        let ones (n : Nat) : Nat := ((draw n).filter id).length
        (∀ i, i < k → ones i < 24 ∨ 40 < ones i) → 24 ≤ ones k → ones k ≤ 40 →
        drawPattern 64 r = (draw k, (lfsrBits (64 * (k + 1)) r).2))
    ∧ ∀ (s t : State) (p : PatternTest), s.csu.test = none → exec .patternTestStart s = .next t → t.csu.test = some p →
        (p.draw, t.csu.lfsr) = drawPattern 64 s.csu.lfsr)
    ∧ (
    ∀ (s : State) (x : Instr) (m : Measures), s.Shaped → ClosesWith s x m →
      ∃ t, exec x s = .next t ∧ t.csu.lfsr = s.csu.lfsr ∧ t.csu.leaks = s.csu.leaks ∧ t.csu.loops = s.csu.loops
        ∧ t.csu.pairs = s.csu.pairs ∧ t.csu.leakCursor = s.csu.leakCursor ∧ t.csu.crossCursor = s.csu.crossCursor
        ∧ (s.csu.measuring = none ∨ 50 ≤ s.csu.dwelt →
            t.csu.measuring = s.csu.measuring ∧ t.csu.dwelt = s.csu.dwelt ∧ t.csu.residual = s.csu.residual
              ∧ t.csu.leakList = s.csu.leakList)
        ∧ (∀ cable, s.csu.measuring = some cable → s.csu.dwelt < 50 →
            (t.spc.contactor = .closed ∧ t.spc.condition = .normal →
              t.csu.measuring = some cable ∧ t.csu.dwelt = s.csu.dwelt + 1
                ∧ t.csu.residual = s.csu.residual + min m.residual 4095 ∧ t.csu.leakList = s.csu.leakList)
            ∧ (t.spc.contactor ≠ .closed ∨ t.spc.condition ≠ .normal →
              t.csu.measuring = none ∧ t.csu.dwelt = 0 ∧ t.csu.residual = 0
                ∧ t.csu.leakList = cable :: s.csu.leakList.filter fun c => c ≠ cable))
        ∧ (∀ c rec d ch, Wired s c rec → tget? s.csu.dark c = some d → tget? s.ob.channels rec.channel = some ch →
            ∃ ch', tget? t.ob.channels rec.channel = some ch'
              ∧ (ch'.state ≠ ch.state → tget? t.csu.dark c = some ⟨0, 0, 0, ch'.state && d.due⟩)
              ∧ (ch'.state = ch.state → ch.state = true → tget? t.csu.dark c = some d)
              ∧ (ch'.state = ch.state → ch.state = false →
                  tget? t.csu.dark c = some { d with age := min 255 (d.age + 1) }))
        ∧ (s.csu.test = none → t.csu.test = none ∧ t.csu.crossList = s.csu.crossList)
        ∧ ∀ p, s.csu.test = some p →
            (∀ ch, s.drivesPulse ch = true ↔ (∃ rec, s.circuitRec? p.source = some rec ∧ rec.channel = ch)
                ∧ p.draw[p.index]? = some true ∧ s.channelIsOn ch = false)
            ∧ (SwitchesOn s t p.source ∨ t.isFlashing p.source = true →
                t.csu.test = none ∧ t.csu.crossList = p.source :: s.csu.crossList.filter fun c => c ≠ p.source)
            ∧ (¬ SwitchesOn s t p.source → t.isFlashing p.source = false →
                t.csu.crossList = s.csu.crossList
                ∧ ∃ q, t.csu.test = some q ∧ q.source = p.source ∧ q.draw = p.draw
                  ∧ q.index = (if p.index < p.draw.length then p.index + 1 else p.index)
                  ∧ q.sensors.length = p.sensors.length
                  ∧ ∀ (i : Nat) (a : Sensor), p.sensors[i]? = some a → ∃ b : Sensor, q.sensors[i]? = some b ∧ b.circuit = a.circuit
                    ∧ b.count = (if a.excluded = false ∧ p.draw[p.index]? = some (s.sensedOn m a.circuit)
                        then a.count + 1 else a.count)
                    ∧ (b.excluded = true ↔
                        a.excluded = true ∨ SwitchesOn s t a.circuit ∨ t.isFlashing a.circuit = true)))

/-! ### Detectors -/

/-- DETECTOR_ACTIVATION on an absent detector: n samples of PRESENT in a row, n the filter's, accept PRESENT at the last; the
presence and absence timers are 0, the interval counts one activation, a gap of the threshold or more that ends counts for
the class where that is its mode, every group of the demand set not in GREEN has demand of origin DETECTOR, and DET_STUCK_OFF
is cleared; the SC's decision follows at that instant (Ends); extending presence and the extension timers follow, at an
activation and at a release. Fewer samples only lengthen the run; a detector already present is left alone (R55, R67, R68,
R70, R74, R76).
DETECTOR_RELEASE on a present detector: n samples of ABSENT in a row accept ABSENT at the last; the gap timer starts at 0, a
presence of the threshold or more counts for the class where that is its mode, and DET_STUCK_ON is cleared; no demand is
taken away. A detector already absent is left alone (R67, R69, R76). -/
def Obligations.DetectorActivatesAndReleases : Prop :=
  (
    ∀ (s : State) (d n : Nat) (rec : DetectorRec) (r : DetRun), s.detectorRec? d = some rec →
      tget? s.du.dets d = some r → 1 ≤ n →
      (r.level = false → r.run + n = rec.filterSamples →
        ∃ t q, exec (.detectorActivation d (List.replicate n true)) s = .next t ∧ tget? t.du.dets d = some q
          ∧ q.level = true ∧ q.raw = true ∧ q.run = 0 ∧ q.presence = 0 ∧ q.absence = 0 ∧ q.gap = none
          ∧ q.activations = min 65535 (r.activations + 1) ∧ q.occupied = r.occupied
          ∧ (rec.classMode = .gapLonger → (∃ g, r.gap = some g ∧ rec.threshold ≤ g) →
              q.classCount = min 65535 (r.classCount + 1))
          ∧ (rec.classMode ≠ .gapLonger ∨ r.gap = none ∨ (∃ g, r.gap = some g ∧ g < rec.threshold) →
              q.classCount = r.classCount)
          ∧ ExtensionFollows s t
          ∧ (∃ u, DetectorMoved s u ∧ Ends u t ∧ ExtensionFollows s u
              ∧ ∀ g, tget? u.sc.demand g =
                if inSet rec.demandSet g = true ∧ s.isGreen g = false ∧ thas s.dt.live.groups g = true then
                  some { (tget? s.sc.demand g).getD ⟨false, false, false⟩ with detector := true }
                else tget? s.sc.demand g)
          ∧ (∀ k, k ≠ d → tget? t.du.dets k = tget? s.du.dets k)
          ∧ (∀ g, inSet rec.demandSet g = true → s.isGreen g = false → thas s.dt.live.groups g = true →
              (tget? t.sc.demand g).map (·.detector) = some true)
          ∧ t.isLive (.detector d) .detStuckOff = false
          ∧ t.dt = s.dt ∧ t.li = s.li ∧ t.stc = s.stc ∧ t.spc = s.spc ∧ t.cm = s.cm ∧ t.fru.mode = s.fru.mode)
      ∧ (r.level = false → r.run + n < rec.filterSamples →
          ∃ t, exec (.detectorActivation d (List.replicate n true)) s = .next t
            ∧ t = { s with du := { s.du with dets := t.du.dets } }
            ∧ tget? t.du.dets d = some { r with raw := true, run := r.run + n }
            ∧ ∀ k, k ≠ d → tget? t.du.dets k = tget? s.du.dets k)
      ∧ (∀ l, r.level = true → exec (.detectorActivation d l) s = .next s))
    ∧ (
    ∀ (s : State) (d n : Nat) (rec : DetectorRec) (r : DetRun), s.detectorRec? d = some rec →
      tget? s.du.dets d = some r → 1 ≤ n →
      (r.level = true → r.run + n = rec.filterSamples →
        ∃ t q, exec (.detectorRelease d (List.replicate n false)) s = .next t ∧ tget? t.du.dets d = some q
          ∧ q.level = false ∧ q.raw = false ∧ q.run = 0 ∧ q.gap = some 0 ∧ q.presence = r.presence
          ∧ q.activations = r.activations
          ∧ q.classCount = (if rec.classMode = .presenceLonger ∧ rec.threshold ≤ r.presence
              then min 65535 (r.classCount + 1) else r.classCount)
          ∧ (∀ k, k ≠ d → tget? t.du.dets k = tget? s.du.dets k)
          ∧ (∀ g o, tget? s.sc.demand g = some o → ∃ o', tget? t.sc.demand g = some o') ∧ ExtensionFollows s t
          ∧ (∃ u, DetectorMoved s u ∧ Ends u t ∧ ExtensionFollows s u ∧ u.sc.demand = s.sc.demand)
          ∧ t.isLive (.detector d) .detStuckOn = false
          ∧ t.dt = s.dt ∧ t.li = s.li ∧ t.stc = s.stc ∧ t.spc = s.spc ∧ t.cm = s.cm ∧ t.fru.mode = s.fru.mode)
      ∧ (r.level = true → r.run + n < rec.filterSamples →
          ∃ t, exec (.detectorRelease d (List.replicate n false)) s = .next t
            ∧ t = { s with du := { s.du with dets := t.du.dets } }
            ∧ tget? t.du.dets d = some { r with raw := false, run := r.run + n })
      ∧ (∀ l, r.level = false → exec (.detectorRelease d l) s = .next s))

/-- The stuck detectors: present for longer than max presence raises DET_STUCK_ON, absent of activations for max absence
raises DET_STUCK_OFF, each a time of 0 switching its check off; by either fault a detector that becomes substituted has
demand in every group of its demand set not in GREEN, and a substituted detector asserts extending presence for every group
of its extend set (R71 to R74). -/
def Obligations.DetectorStuck : Prop :=
  ∀ (s : State) (d : Nat) (rec : DetectorRec) (r : DetRun), s.detectorRec? d = some rec →
    tget? s.du.dets d = some r →
    (r.level = true → rec.maxPresenceDs ≠ 0 → rec.maxPresenceDs < r.presence →
      s.dt.live.effective .detStuckOn .none ≠ .ignore →
      ∃ t, exec (.detStuckOn d) s = .next t ∧ t.isLive (.detector d) .detStuckOn = true ∧ t.du = s.du ∧ t.dt = s.dt
        ∧ t.li = s.li ∧ t.stc = s.stc ∧ t.cm = s.cm
        ∧ (∀ g e, inSet rec.extendSet g = true → tget? s.sc.ext g = some e →
            (tget? t.sc.ext g).map (·.presence) = some true)
        ∧ (s.substituted d = false →
            ∀ g, inSet rec.demandSet g = true → s.isGreen g = false → thas s.dt.live.groups g = true →
              (tget? t.sc.demand g).map (·.detector) = some true))
    ∧ (r.level = false ∨ rec.maxPresenceDs = 0 ∨ r.presence ≤ rec.maxPresenceDs →
        exec (.detStuckOn d) s = .next s)
    ∧ (rec.maxAbsenceDs ≠ 0 → rec.maxAbsenceDs ≤ r.absence → s.dt.live.effective .detStuckOff .none ≠ .ignore →
      ∃ t, exec (.detStuckOff d) s = .next t ∧ t.isLive (.detector d) .detStuckOff = true ∧ t.du = s.du ∧ t.dt = s.dt
        ∧ t.li = s.li ∧ t.stc = s.stc ∧ t.cm = s.cm
        ∧ (∀ g e, inSet rec.extendSet g = true → tget? s.sc.ext g = some e →
            (tget? t.sc.ext g).map (·.presence) = some true)
        ∧ (s.substituted d = false →
            ∀ g, inSet rec.demandSet g = true → s.isGreen g = false → thas s.dt.live.groups g = true →
              (tget? t.sc.demand g).map (·.detector) = some true))
    ∧ (rec.maxAbsenceDs = 0 ∨ r.absence < rec.maxAbsenceDs → exec (.detStuckOff d) s = .next s)

/-- INTERVAL_CLOSE: at 600 ds an armed detector's record takes the interval's activations, occupied time and occupancy in
percent rounded half up, and adds them to its totals; one not armed keeps what it had; each is armed for the next interval
where it is configured and recording is active, and the interval's figures start at 0; sooner nothing happens. An interval
closed late ends and starts at its own 600 ds all the same, by the model's choice (log 24) (R75, R77, R164). -/
def Obligations.IntervalClosed : Prop :=
  ∀ s : State,
    (s.du.intervalStart + 600 ≤ s.uptime →
      ∃ t, exec .intervalClose s = .next t ∧ t = { s with du := t.du, ru := { s.ru with dets := t.ru.dets } }
        ∧ t.du.intervalStart = s.du.intervalStart + 600
        ∧ (∀ d r, tget? s.du.dets d = some r →
            tget? t.du.dets d = some { r with activations := 0, occupied := 0, classCount := 0 })
        ∧ ∀ d r v, tget? s.du.dets d = some r → tget? s.ru.dets d = some v →
            ∃ w, tget? t.ru.dets d = some w ∧ w.enable = v.cfgEnable ∧ w.armed = (v.cfgEnable && s.ru.active)
              ∧ (v.armed = true → w.lastActivations = r.activations ∧ w.lastOccupied = r.occupied
                  ∧ w.lastOccupancy = (r.occupied * 100 + 300) / 600
                  ∧ w.lastEnd = some (s.du.intervalStart + 600)
                  ∧ w.activations = v.activations + BitVec.ofNat 32 r.activations
                  ∧ w.occupied = v.occupied + BitVec.ofNat 32 r.occupied
                  ∧ w.classCount = v.classCount + BitVec.ofNat 32 r.classCount)
              ∧ (v.armed = false → w.lastActivations = v.lastActivations ∧ w.activations = v.activations
                  ∧ w.occupied = v.occupied ∧ w.lastEnd = v.lastEnd))
    ∧ (s.uptime < s.du.intervalStart + 600 → exec .intervalClose s = .next s)

/-! ### Groups and stages -/

/-- GROUP_START: in START_RED, RUN and CLEARING a group at rest in target, not locked out, whose entry instant has come with
no conflicting group in GREEN or RED_AMBER, starts: into RED_AMBER where its RA is above 0, else into GREEN, with its demand
taken, its wait ended and a capture opened where recording is enabled. The requested stage is established at that instant
where it then stands, and the SC decides where a decision is due (Ends; R33, R51, R56). Every other group stands, but for
what an SC decision of the same instant does to it. Before the instant, blocked, out of target, locked out, not at rest or in
another mode nothing happens (R24, R30, R32, R160). -/
def Obligations.GroupStarts : Prop :=
  ∀ (s : State) (g : Nat) (rec : GroupRec) (r : GroupRun), s.groupRec? g = some rec → tget? s.gs.groups g = some r →
    (s.fru.mode ∈ [.startRed, .run, .clearing] → r.aspect = rec.kind.rest → r.inTarget = true → r.lockHeld = false →
      ¬ BlockedBy s g → (∀ T, EarliestStart s g T → T ≤ s.uptime + rec.ra) →
      ∃ t u, exec (.groupStart g) s = .next t ∧ Ends u t
        ∧ (0 < rec.ra → u = { s with gs := { s.gs with
              groups := tupd s.gs.groups g fun q => { q with aspect := .redAmber, timer := 0, halves := 0 } } }
            ∧ GroupStands s t g { r with aspect := .redAmber, timer := 0, halves := 0 })
        ∧ (rec.ra = 0 → GreenStarted s u g rec
            ∧ GroupStands s t g
              { r with aspect := .green, timer := 0, halves := 0, greenStart := some s.uptime, minElapsed := false }
            ∧ tget? t.sc.demand g = none
            ∧ ∀ v, tget? s.ru.groups g = some v → ∃ w, tget? t.ru.groups g = some w ∧ w.wait = none
                ∧ w.enable = v.cfgEnable ∧ w.extended = v.cfgExtended ∧ w.greens = v.greens
                ∧ w.capture = (if v.cfgEnable = true ∧ s.ru.active = true
                    then some ⟨s.uptime, v.wait.map (s.uptime - ·), v.cfgExtended⟩ else none))
        ∧ ∀ k x, k ≠ g → tget? s.gs.groups k = some x → GroupStands s t k x)
    ∧ ((s.fru.mode ∈ [.dark, .startFlash, .flash, .supplyWait] ∨ r.aspect ≠ rec.kind.rest ∨ r.inTarget = false
          ∨ r.lockHeld = true ∨ BlockedBy s g ∨ ∃ T, EarliestStart s g T ∧ s.uptime + rec.ra < T) →
        exec (.groupStart g) s = .next s)

/-- RED_AMBER_END and AMBER_END: RED_AMBER becomes GREEN at RA with its green start recorded, AMBER becomes RED at the amber
time (R23, R30). CLEARANCE_END and CLEARANCE_FLASH_HALF: a CLEARANCE begins its next half every 5 ds and becomes RED at the
clearance time (R25). In each the other groups stand, but for what an SC decision of the same instant does to them; sooner,
or in another aspect, nothing happens. The requested stage is established at that instant where it then stands, with stage
elapsed 0 and a FIXED stage's allowance; in CLEARING the all-red timer starts at 0 at the end that brings the last group to
rest and is none until then; and the SC decides where a decision is due (Ends; R33, R36, R51, R56, R140). FLASH_HALF: the
flash pattern's lit and dark halves alternate every 5 ds in START_FLASH and FLASH; sooner, or in another mode, nothing
happens (R37).
MIN_GREEN_ELAPSED: at its min green a green has elapsed it; one still in target stays GREEN, one out of target ends at once,
stamped, into AMBER, DARK or CLEARANCE by its kind, with its extension timer 0, its recall applied and its capture counted,
cause NORMAL; sooner, or elapsed already, nothing happens (R27, R29, R30, R54, R55, R161). Whatever the cause of a green end,
a service record is counted as Counted says (R161). -/
def Obligations.GroupTimerEvents : Prop :=
  (∀ (v : GroupService) (cause : EndCause) (now : Nat), Counted now v (v.greenEnd cause now) (cause = .normal))
    ∧ (
    ∀ (s : State) (g : Nat) (rec : GroupRec) (r : GroupRun), s.groupRec? g = some rec → tget? s.gs.groups g = some r →
      let others (t : State) : Prop := ∀ k x, k ≠ g → tget? s.gs.groups k = some x → GroupStands s t k x
      (r.aspect = .redAmber → rec.ra ≤ r.timer →
        ∃ t u, exec (.redAmberEnd g) s = .next t ∧ Ends u t ∧ GreenStarted s u g rec
          ∧ GroupStands s t g
              { r with aspect := .green, timer := 0, halves := 0, greenStart := some s.uptime, minElapsed := false }
          ∧ tget? t.sc.demand g = none ∧ others t
          ∧ ∀ v, tget? s.ru.groups g = some v → ∃ w, tget? t.ru.groups g = some w ∧ w.wait = none
              ∧ w.enable = v.cfgEnable ∧ w.extended = v.cfgExtended ∧ w.greens = v.greens
              ∧ w.capture = (if v.cfgEnable = true ∧ s.ru.active = true
                  then some ⟨s.uptime, v.wait.map (s.uptime - ·), v.cfgExtended⟩ else none))
      ∧ ((r.aspect ≠ .redAmber ∨ r.timer < rec.ra) → exec (.redAmberEnd g) s = .next s)
      ∧ (r.aspect = .amber → rec.amber ≤ r.timer →
        ∃ t, exec (.amberEnd g) s = .next t
          ∧ Ends { s with gs := { s.gs with
              groups := tupd s.gs.groups g fun q => { q with aspect := .red, timer := 0, halves := 0 } } } t
          ∧ GroupStands s t g { r with aspect := .red, timer := 0, halves := 0 } ∧ others t)
      ∧ ((r.aspect ≠ .amber ∨ r.timer < rec.amber) → exec (.amberEnd g) s = .next s)
      ∧ (r.aspect = .clearance → rec.clearance ≤ r.timer →
        ∃ t, exec (.clearanceEnd g) s = .next t
          ∧ Ends { s with gs := { s.gs with
              groups := tupd s.gs.groups g fun q => { q with aspect := .red, timer := 0, halves := 0 } } } t
          ∧ GroupStands s t g { r with aspect := .red, timer := 0, halves := 0 } ∧ others t)
      ∧ ((r.aspect ≠ .clearance ∨ r.timer < rec.clearance) → exec (.clearanceEnd g) s = .next s)
      ∧ (r.aspect = .clearance → 5 * (r.halves + 1) ≤ r.timer →
        ∃ t, exec (.clearanceFlashHalf g) s = .next t
          ∧ Ends { s with gs := { s.gs with groups := tupd s.gs.groups g fun q => { q with halves := q.halves + 1 } } } t
          ∧ GroupStands s t g { r with halves := r.halves + 1 } ∧ others t)
      ∧ ((r.aspect ≠ .clearance ∨ r.timer < 5 * (r.halves + 1)) → exec (.clearanceFlashHalf g) s = .next s)
      ∧ (r.aspect = .green → r.minElapsed = false → rec.minGreen ≤ r.timer →
        ∃ t u, exec (.minGreenElapsed g) s = .next t ∧ Ends u t ∧ others t
          ∧ (r.inTarget = true → GroupStands s t g { r with minElapsed := true }
            ∧ u = { s with gs := { s.gs with groups := tupd s.gs.groups g fun q => { q with minElapsed := true } } })
          ∧ (r.inTarget = false →
            GroupStands s t g { r with
              aspect := match rec.kind with | .vehicle => .amber | .arrow => .dark | .pedestrian => .clearance
              timer := 0, halves := 0, minElapsed := true, greenEnd := s.uptime }
            ∧ (∀ e, tget? s.sc.ext g = some e → tget? t.sc.ext g = some { e with timer := 0 })
            ∧ (rec.recalls = true → (tget? t.sc.demand g).map (·.recalls) = some true)
            ∧ (∀ v, tget? s.ru.groups g = some v → ∃ w, tget? t.ru.groups g = some w ∧ Counted s.uptime v w True)
            ∧ u = { s with gs := { s.gs with groups := u.gs.groups }, sc := u.sc, ru := { s.ru with groups := u.ru.groups } }
            ∧ tget? u.gs.groups g = some { r with
              aspect := match rec.kind with | .vehicle => .amber | .arrow => .dark | .pedestrian => .clearance
              timer := 0, halves := 0, minElapsed := true, greenEnd := s.uptime }
            ∧ u.sc = { s.sc with demand := u.sc.demand, ext := tupd s.sc.ext g fun x => { x with timer := 0 } }
            ∧ ∀ k, k ≠ g → tget? u.gs.groups k = tget? s.gs.groups k ∧ tget? u.sc.demand k = tget? s.sc.demand k
                ∧ tget? u.ru.groups k = tget? s.ru.groups k))
      ∧ ((r.aspect ≠ .green ∨ r.minElapsed = true ∨ r.timer < rec.minGreen) → exec (.minGreenElapsed g) s = .next s))
    ∧ (
    ∀ s : State,
      (s.fru.mode = .startFlash ∨ s.fru.mode = .flash → 5 ≤ s.gs.flashTimer →
        ∃ t, exec .flashHalf s = .next t
          ∧ Ends { s with gs := { s.gs with flashTimer := s.gs.flashTimer - 5, flashLit := !s.gs.flashLit } } t)
      ∧ ((s.fru.mode ≠ .startFlash ∧ s.fru.mode ≠ .flash) ∨ s.gs.flashTimer < 5 → exec .flashHalf s = .next s))

/-- What a vehicle, arrow or pedestrian group shows: in START_RED, RUN and CLEARING its circuits are commanded by its aspect
(red in RED and RED_AMBER, amber in AMBER and RED_AMBER, green in GREEN and in the lit halves of CLEARANCE), in START_FLASH
and FLASH only the AMBER of a VEHICLE group in the lit half, and in DARK and SUPPLY_WAIT nothing (R22, R26, R37, R38). -/
def Obligations.CommandsFollowAspect : Prop :=
  ∀ (s : State) (c : Nat) (rec : CircuitRec) (g : GroupRec) (r : GroupRun), s.circuitRec? c = some rec →
    s.groupRec? rec.group = some g → tget? s.gs.groups rec.group = some r →
    (s.fru.mode ∈ [.startRed, .run, .clearing] →
      s.circuitCommand c = (match rec.role with
        | .red => decide (r.aspect = .red ∨ r.aspect = .redAmber)
        | .amber => decide (r.aspect = .amber ∨ r.aspect = .redAmber)
        | .green => decide (r.aspect = .green ∨ (r.aspect = .clearance ∧ r.halves % 2 = 1))))
    ∧ (s.fru.mode ∈ [.startFlash, .flash] →
        s.circuitCommand c = decide (g.kind = .vehicle ∧ rec.role = .amber ∧ s.gs.flashLit = true))
    ∧ (s.fru.mode ∈ [.dark, .supplyWait] → s.circuitCommand c = false)

/-- The cycle of a FIXED plan: a change point arrived at requests its stage, the wrap requests stage 1 or takes the pending
plan with the clock at 0, and a ds of correction moves the clock by 2 with Δ above 0 and lets it stand with Δ below 0, one
off Δ and the allowance; the double step appends to the arrivals the change point it reaches or passes over; with no arrival
nothing owed, or a ds owed that is no longer one of correction, nothing happens (the next ds boundary then makes up that ds:
log 16). The stage requested is established at that instant exactly where it stands already, with stage elapsed 0 and its
allowance a tenth of its span (R33, R51). The fields of arrivals and of a correction owed are the model's own choice (log 16)
(R52, R61, R63). -/
def Obligations.FixedPlanEvents : Prop :=
  ∀ (s : State) (p : Plan), s.running? .fixed = some p →
    (∀ k rest st, s.sc.arrivals = k :: rest → k ≠ 1 → p.stage? k = some st →
      ∃ t u, exec .changePointReached s = .next t ∧ t.sc.stage = some k ∧ JustRequested t st.green
        ∧ Requests { s with sc := { s.sc with arrivals := rest } } u k st (fun _ tag => tag) ∧ Ends u t
        ∧ t.sc.arrivals = rest ∧ t.sc.clock = s.sc.clock ∧ t.sc.current = s.sc.current ∧ t.sc.pending = s.sc.pending
        ∧ t = { s with sc := t.sc, gs := t.gs, ru := t.ru, ob := t.ob, pu := t.pu, csu := t.csu })
    ∧ (∀ rest st, s.sc.arrivals = 1 :: rest → p.stage? 1 = some st → s.sc.pending = none →
      ∃ t u, exec .cycleWrap s = .next t ∧ t.sc.stage = some 1 ∧ JustRequested t st.green
        ∧ Requests { s with sc := { s.sc with arrivals := rest } } u 1 st (fun _ tag => tag) ∧ Ends u t
        ∧ t.sc.arrivals = rest ∧ t.sc.clock = s.sc.clock ∧ t.sc.current = s.sc.current
        ∧ t = { s with sc := t.sc, gs := t.gs, ru := t.ru, ob := t.ob, pu := t.pu, csu := t.csu })
    ∧ (∀ rest n q id st, s.sc.arrivals = 1 :: rest → s.sc.pending = some n →
        tget? s.sc.slots n = some (.valid q id) → q.mode = .fixed ∨ 0 < s.dt.live.stageMin st → q.stage? 1 = some st →
      ∃ t u, exec .cycleWrap s = .next t ∧ TakenOver s u n ∧ Ends u t ∧ t.sc.current = some n ∧ t.sc.pending = none
        ∧ t.sc.clock = 0
        ∧ t.sc.delta = 0 ∧ t.sc.hold = 0 ∧ t.sc.stage = some 1 ∧ JustRequested t st.green)
    ∧ ((s.sc.arrivals = [] ∨ s.sc.arrivals.head? = some 1) → exec .changePointReached s = .next s)
    ∧ (s.sc.arrivals.head? ≠ some 1 → exec .cycleWrap s = .next s)
    ∧ (∀ k st, s.sc.stage = some k → p.stage? k = some st → s.sc.owed = true → s.gs.reportOwed = false →
        s.sc.established = true → s.dt.live.stageMin st ≤ s.sc.elapsed → s.sc.allowance ≠ 0 → s.sc.delta ≠ 0 →
      ∃ t, exec .syncCorrection s = .next t ∧ Ends { s with sc := t.sc } t ∧ t.gs = s.gs
        ∧ (0 < s.sc.delta → ∃ a b, Advances p s.sc a ∧ Advances p a b ∧ t.sc = { b with
            owed := false, allowance := s.sc.allowance - 1, delta := s.sc.delta - 1 })
        ∧ (s.sc.delta < 0 → t.sc = { s.sc with
            owed := false, allowance := s.sc.allowance - 1, delta := s.sc.delta + 1 }))
    ∧ (s.sc.owed = false ∨ ¬ Correctable s p → exec .syncCorrection s = .next s)

/-- GAP_OUT, STAGE_MIN_REACHED, STAGE_MAX_REACHED, STAGE_END_DECISION, HOLD_EXPIRED and FORCED_STAGE_REQUEST in RUN with an
ACTUATED plan, each where its own condition holds: once the stage is established, HOLD is 0 and the stage min is reached, a
forced stage is requested; with none, a pending plan is taken when the stage is spent or no other stage is wanted, with the
clock at 0 (for an ACTUATED plan too: log 33, the model's choice); with neither, the next wanted stage is requested when the
stage is spent, and each group of the ending stage that is green, not locked out and not in the next stage takes the end tag
GAP_OUT or MAX_OUT as it stands at that instant; a forced stage and a take-over give no tag. A green that the request ends at
once is counted with the tag it has, cause NORMAL, and any other record keeps it (R161, R162). Otherwise, and while the
requested stage is not yet established, the SC, the groups and the service records stand; whatever the state of the report,
the step ends as Ends says (R33, R56 to R59, R63). Where its own condition fails, or no ACTUATED plan runs, each of the six
does nothing. GappedOut and IsNext, which `State.gappedOut` and `State.nextStage?` decide, spell what has gapped out (R55)
and which stage comes next (R56, R57). -/
def Obligations.ActuatedDecisions : Prop :=
  (∀ (s : State) (g : Nat), s.gappedOut g = true ↔ GappedOut s g)
  ∧ (∀ (s : State) (p : Plan) (k n : Nat), s.nextStage? p k = some n ↔ IsNext s p k n)
  ∧ (∀ (s : State) (c : Instr), IsDecision c →
      (∀ p k cur, s.running? .actuated = some p → s.sc.stage = some k → p.stage? k = some cur → ¬ DecisionDue s cur c) →
        exec c s = .next s)
  ∧ ∀ (s : State) (p : Plan) (k : Nat) (cur : Stage) (c : Instr), s.running? .actuated = some p → s.sc.stage = some k →
    p.stage? k = some cur → DecisionDue s cur c →
      ∃ t, exec c s = .next t ∧ Ends s t
        ∧ (s.gs.reportOwed = true → (∀ set, s.gs.requested = some set → ¬ s.Stands set) → s.sc.established = false →
            t.sc = s.sc ∧ t.gs = s.gs ∧ t.ru = s.ru)
        ∧ (s.gs.reportOwed = false →
        (s.sc.established = false ∨ s.sc.hold ≠ 0 ∨ s.sc.elapsed < s.dt.live.stageMin cur →
            t.sc = s.sc ∧ t.gs = s.gs ∧ t.ru = s.ru)
        ∧ (s.sc.established = true → s.sc.hold = 0 → s.dt.live.stageMin cur ≤ s.sc.elapsed →
          (∀ f st, s.sc.forced = some f → p.stage? f = some st →
              t.sc.stage = some f ∧ t.sc.forced = none ∧ t.gs.requested = some st.green
              ∧ ServedAtRequest s t st.green fun _ tag => tag)
          ∧ (∀ n, s.sc.forced = none → s.sc.pending = some n → (Spent s cur ∨ ∀ m, ¬ IsNext s p k m) →
              t.sc.current = some n ∧ t.sc.pending = none ∧ t.sc.clock = 0
              ∧ ∀ q id st, tget? s.sc.slots n = some (.valid q id) → q.stage? 1 = some st →
                  t.gs.requested = some st.green ∧ ServedAtRequest s t st.green fun _ tag => tag)
          ∧ (∀ n st, s.sc.forced = none → s.sc.pending = none → IsNext s p k n → p.stage? n = some st →
              Spent s cur → t.sc.stage = some n ∧ t.gs.requested = some st.green
              ∧ ServedAtRequest s t st.green fun g tag =>
                  if inSet cur.green g = true ∧ inSet st.green g = false ∧ s.isGreen g = true ∧ s.isLocked g = false then
                    (if s.gappedOut g = true then .gapOut else .maxOut)
                  else tag)
          ∧ (s.sc.forced = none → s.sc.pending ≠ none → ¬ Spent s cur → (∃ m, IsNext s p k m) →
              t.sc = s.sc ∧ t.gs = s.gs ∧ t.ru = s.ru)
          ∧ (s.sc.forced = none → s.sc.pending = none → (¬ Spent s cur ∨ ∀ m, ¬ IsNext s p k m) →
              t.sc = s.sc ∧ t.gs = s.gs ∧ t.ru = s.ru)))

/-! ### The store -/

/-- The end of a write: matched within its time, its area is INTACT with the copy and its CRC-32 (over the model's layout:
log 29) written, the stored identity follows a definition, and STORE_FAULT is cleared once no image is troubled; mismatched
or out of time (log 41, the model's inference), a first attempt leaves its image for a retry with STORE_FAULT live and a
retry leaves its area FAILED; the next pending image is then started. With no write in flight, or before its time, nothing
happens (R171 to R175, R178). -/
def Obligations.StoreWrites : Prop :=
  ∀ s : State, s.Shaped →
    (∀ f, s.stc.flight = some f → 1 ≤ f.image → f.image ≤ 10 →
      (f.elapsed < (if f.image = 1 then 1500 else 400) →
        ∃ t a, exec (.storeWriteEnd true) s = .next t ∧ tget? t.stc.areas f.image = some a ∧ a.cond = .intact
        ∧ a.content = some f.copy ∧ a.crc = f.copy.crc ∧ a.torn = [] ∧ t = { s with stc := t.stc, fru := t.fru, ru := t.ru }
        ∧ t.fru = { s.fru with table := t.fru.table }
        ∧ (∀ d id, f.copy = .definition d id → t.stc.storedIdentity = some id)
        ∧ (t.stc.troubled = false → t.isLive .junction .storeFault = false)
        ∧ (s.stc.pendingImages = [] → t.stc.flight = none)
        ∧ (∀ n rest, s.stc.pendingImages = n :: rest → ∃ f', t.stc.flight = some f' ∧ f'.image = n ∧ f'.elapsed = 0))
      ∧ ∀ c, (c = .storeWriteEnd false ∨ ((c = .storeWriteEnd true ∨ c = .storeWriteTimeExpired)
            ∧ (if f.image = 1 then 1500 else 400) ≤ f.elapsed)) →
          ∃ t, exec c s = .next t ∧ t.dt = s.dt ∧ t.stc.storedIdentity = s.stc.storedIdentity
            ∧ (f.attempt = .retry → t.fru = s.fru
                ∧ ∃ a, tget? t.stc.areas f.image = some a ∧ a.cond = .failed)
            ∧ (f.attempt ≠ .retry → t.isLive .junction .storeFault = true
                ∧ (t.stc.markOf f.image = .retry
                  ∨ ∃ f', t.stc.flight = some f' ∧ f'.image = f.image ∧ f'.attempt = .retry)))
    ∧ (∀ f, s.stc.flight = some f → f.elapsed < (if f.image = 1 then 1500 else 400) →
        exec .storeWriteTimeExpired s = .next s)
    ∧ (s.stc.flight = none →
        (∀ m, exec (.storeWriteEnd m) s = .next s) ∧ exec .storeWriteTimeExpired s = .next s)

/-! ### Encodings and invariants -/

/-- A definition record or plan that DEF_RECORD or PLAN_RECORD takes is laid out again as the very body that was sent, so
the canonical serialisation and the identities lose no bit of it (R3, R11, R44, R45, section 11.7). -/
def Obligations.BodiesRoundTrip : Prop :=
  (∀ b r, parseRecord b = .ok r → r.body = b ∧ parseRecord r.body = .ok r)
    ∧ ∀ b p, parsePlan b = .ok p → p.body = b ∧ parsePlan p.body = .ok p

/-- Every step keeps every channel commanded, and every circuit's manner set, as the groups and the mode stand after it
(R26, R37, R38, R41, R84). -/
def Obligations.CommandsFollowKept : Prop :=
  ∀ s t : State, s.CommandsFollow → step s = .next t → t.CommandsFollow

/-- Every step keeps the current and the pending plan VALID whenever not none, and never the same slot (R50). -/
def Obligations.PlansInForceKept : Prop :=
  ∀ s t : State, s.PlansInForce → step s = .next t → t.PlansInForce

/-- Every step keeps the junction mode RUN only while the live definition is VALID, a plan is current and no fault of
effective severity FLASH or above is live (R137); with it, that the junction rests in DARK until the store load is
complete, which keeps a load from replacing a running junction's definition (R176, R177). -/
def Obligations.RunGuardKept : Prop :=
  ∀ s t : State, s.RunGuarded → s.LoadingQuiet → step s = .next t → t.RunGuarded ∧ t.LoadingQuiet

/-- Every step keeps the lockout set the defined groups with a circuit that has a latched entry of effective severity
LOCKOUT, each group's record following it, and ALL_LOCKED live exactly while it holds every defined group (R136); it keeps
a locked group out of target and out of GREEN, RED_AMBER and CLEARANCE, and each group in an aspect of its kind (R21, R34).
In the ASPECT regime a group that joins the set leaves a GREEN into AMBER, DARK or RED by its kind, stamped, counted as a
forced end and with its recall applied, and a RED_AMBER or CLEARANCE into RED; in any other aspect it stands (R34). One that
leaves the set rejoins the target in RUN where the stage in force names it, and else stands (R35). -/
def Obligations.LockoutFollowsKept : Prop :=
  (∀ s t : State, s.LockoutFollows → step s = .next t → t.LockoutFollows)
  ∧ (∀ s t : State, s.LockedQuiet → step s = .next t → t.LockedQuiet)
  ∧ (∀ s t : State, s.AspectsFit → step s = .next t → t.AspectsFit)
  ∧ ∀ (s t : State) (g : Nat) (rec : GroupRec) (r : GroupRun), s.LockoutFollows → s.LockedQuiet → s.AspectsFit →
      s.loading = false → step s = .next t → t.fru.mode = s.fru.mode → s.fru.mode.regime = .aspect →
      s.groupRec? g = some rec → tget? s.gs.groups g = some r →
      (s.isLocked g = false → t.isLocked g = true → ∃ q, tget? t.gs.groups g = some q
        ∧ (r.aspect = .green →
            q = { r with
              aspect := match rec.kind with | .vehicle => .amber | .arrow => .dark | .pedestrian => .red
              timer := 0, halves := 0, greenEnd := s.uptime, lockHeld := true, inTarget := false }
            ∧ (rec.recalls = true → (tget? t.sc.demand g).map (·.recalls) = some true)
            ∧ ∀ v, tget? s.ru.groups g = some v → ∃ w, tget? t.ru.groups g = some w ∧ Counted s.uptime v w False)
        ∧ (r.aspect = .redAmber ∨ r.aspect = .clearance →
            q = { r with aspect := .red, timer := 0, halves := 0, lockHeld := true, inTarget := false })
        ∧ (r.aspect = .red ∨ r.aspect = .amber ∨ r.aspect = .dark → q = { r with lockHeld := true, inTarget := false }))
      ∧ (s.isLocked g = true → t.isLocked g = false → ∃ q, tget? t.gs.groups g = some q
        ∧ q = { r with lockHeld := false, inTarget := q.inTarget }
        ∧ (q.inTarget = true ↔ t.fru.mode = .run ∧ ∃ b, t.gs.requested = some b ∧ inSet b g = true))

/-- Every step keeps two conflicting groups from being in GREEN or RED_AMBER together (R32), and keeps a RED_AMBER timed by
its rivals' green ends. So a step that takes a group into GREEN comes no earlier than I(i→j) after the commanded green end of
every group i that conflicts with it (R31). -/
def Obligations.ConflictFreeKept : Prop :=
  (∀ s t : State, s.ConflictFree → step s = .next t → t.ConflictFree)
  ∧ (∀ s t : State, s.RedAmberTimed → step s = .next t → t.RedAmberTimed)
  ∧ ∀ (s t : State) (j i v : Nat) (q : GroupRun), s.RedAmberTimed → step s = .next t →
      s.aspect? j ≠ some .green → t.aspect? j = some .green → Rival t.dt.live j i v → i ≠ j →
      tget? t.gs.groups i = some q → q.greenEnd + v ≤ t.uptime

/-- Every step keeps the contactor CLOSED in every mode but DARK and the drive as the contactor has it (R137, R149). -/
def Obligations.ContactorHeldKept : Prop :=
  ∀ s t : State, s.ContactorHeld → s.DriveFollows → step s = .next t → t.ContactorHeld ∧ t.DriveFollows

/-- Every step keeps every group at rest outside START_RED, RUN and CLEARING (R22, R37, R38); it keeps the all-red timer
running in CLEARING exactly while every group is at rest, and no group in target outside RUN (R36, R140); and it leaves no
requested stage that stands unreported in RUN (R33, R51). -/
def Obligations.RestOutsideAspectKept : Prop :=
  (∀ s t : State, s.RestOutsideAspect → step s = .next t → t.RestOutsideAspect)
  ∧ (∀ s t : State, s.AllRedFollows → step s = .next t → t.AllRedFollows)
  ∧ ∀ s t : State, s.ReportPrompt → step s = .next t → t.ReportPrompt

/-- Every step keeps ATTN as the queue and the overflow mark have it, the queue within 48 notices, every live fault entry
latched, the fault table by rising key, and the channels, areas, slots and service records each once and in order (R43, R129,
R152, R157, R164, R167, R170, R171). -/
def Obligations.RecordsKept : Prop :=
  ∀ s t : State, s.AttnFollows → s.QueueBounded → s.LiveLatched → s.FaultsInOrder → s.Shaped →
    step s = .next t → t.AttnFollows ∧ t.QueueBounded ∧ t.LiveLatched ∧ t.FaultsInOrder ∧ t.Shaped

/-- The state after reset meets every one of these invariants. -/
def Obligations.ResetIsSafe : Prop :=
  State.reset.ConflictFree ∧ State.reset.ContactorHeld ∧ State.reset.DriveFollows ∧ State.reset.RestOutsideAspect
    ∧ State.reset.AttnFollows ∧ State.reset.QueueBounded ∧ State.reset.LiveLatched ∧ State.reset.Shaped
    ∧ State.reset.CommandsFollow ∧ State.reset.PlansInForce ∧ State.reset.RunGuarded ∧ State.reset.LoadingQuiet
    ∧ State.reset.LockoutFollows ∧ State.reset.LockedQuiet ∧ State.reset.AspectsFit ∧ State.reset.FaultsInOrder
    ∧ State.reset.RedAmberTimed ∧ State.reset.AllRedFollows ∧ State.reset.ReportPrompt
end

