-- ==== Sys2Proof/Laws/State.lean ====
section
/-! SUPPORT. What each one-block change leaves as it stands, and what it changes: one lemma per field per update. -/

set_option Elab.async false

namespace Sys2Proof.Machine

@[simp] theorem State.onLi_li (s : State) (f : Link → Link) : (s.onLi f).li = f s.li := rfl
@[simp] theorem State.onLi_dt (s : State) (f : Link → Link) : (s.onLi f).dt = s.dt := rfl
@[simp] theorem State.onLi_sc (s : State) (f : Link → Link) : (s.onLi f).sc = s.sc := rfl
@[simp] theorem State.onLi_gs (s : State) (f : Link → Link) : (s.onLi f).gs = s.gs := rfl
@[simp] theorem State.onLi_du (s : State) (f : Link → Link) : (s.onLi f).du = s.du := rfl
@[simp] theorem State.onLi_ob (s : State) (f : Link → Link) : (s.onLi f).ob = s.ob := rfl
@[simp] theorem State.onLi_pu (s : State) (f : Link → Link) : (s.onLi f).pu = s.pu := rfl
@[simp] theorem State.onLi_csu (s : State) (f : Link → Link) : (s.onLi f).csu = s.csu := rfl
@[simp] theorem State.onLi_cm (s : State) (f : Link → Link) : (s.onLi f).cm = s.cm := rfl
@[simp] theorem State.onLi_fru (s : State) (f : Link → Link) : (s.onLi f).fru = s.fru := rfl
@[simp] theorem State.onLi_spc (s : State) (f : Link → Link) : (s.onLi f).spc = s.spc := rfl
@[simp] theorem State.onLi_ru (s : State) (f : Link → Link) : (s.onLi f).ru = s.ru := rfl
@[simp] theorem State.onLi_stc (s : State) (f : Link → Link) : (s.onLi f).stc = s.stc := rfl
@[simp] theorem State.onLi_uptime (s : State) (f : Link → Link) : (s.onLi f).uptime = s.uptime := rfl
@[simp] theorem State.onLi_subTick (s : State) (f : Link → Link) : (s.onLi f).subTick = s.subTick := rfl
@[simp] theorem State.onLi_loading (s : State) (f : Link → Link) : (s.onLi f).loading = s.loading := rfl
@[simp] theorem State.onLi_free (s : State) (f : Link → Link) : (s.onLi f).free = s.free := rfl
@[simp] theorem State.onLi_pending (s : State) (f : Link → Link) : (s.onLi f).pending = s.pending := rfl

@[simp] theorem State.onDt_li (s : State) (f : Definitions → Definitions) : (s.onDt f).li = s.li := rfl
@[simp] theorem State.onDt_dt (s : State) (f : Definitions → Definitions) : (s.onDt f).dt = f s.dt := rfl
@[simp] theorem State.onDt_sc (s : State) (f : Definitions → Definitions) : (s.onDt f).sc = s.sc := rfl
@[simp] theorem State.onDt_gs (s : State) (f : Definitions → Definitions) : (s.onDt f).gs = s.gs := rfl
@[simp] theorem State.onDt_du (s : State) (f : Definitions → Definitions) : (s.onDt f).du = s.du := rfl
@[simp] theorem State.onDt_ob (s : State) (f : Definitions → Definitions) : (s.onDt f).ob = s.ob := rfl
@[simp] theorem State.onDt_pu (s : State) (f : Definitions → Definitions) : (s.onDt f).pu = s.pu := rfl
@[simp] theorem State.onDt_csu (s : State) (f : Definitions → Definitions) : (s.onDt f).csu = s.csu := rfl
@[simp] theorem State.onDt_cm (s : State) (f : Definitions → Definitions) : (s.onDt f).cm = s.cm := rfl
@[simp] theorem State.onDt_fru (s : State) (f : Definitions → Definitions) : (s.onDt f).fru = s.fru := rfl
@[simp] theorem State.onDt_spc (s : State) (f : Definitions → Definitions) : (s.onDt f).spc = s.spc := rfl
@[simp] theorem State.onDt_ru (s : State) (f : Definitions → Definitions) : (s.onDt f).ru = s.ru := rfl
@[simp] theorem State.onDt_stc (s : State) (f : Definitions → Definitions) : (s.onDt f).stc = s.stc := rfl
@[simp] theorem State.onDt_uptime (s : State) (f : Definitions → Definitions) : (s.onDt f).uptime = s.uptime := rfl
@[simp] theorem State.onDt_subTick (s : State) (f : Definitions → Definitions) : (s.onDt f).subTick = s.subTick := rfl
@[simp] theorem State.onDt_loading (s : State) (f : Definitions → Definitions) : (s.onDt f).loading = s.loading := rfl
@[simp] theorem State.onDt_free (s : State) (f : Definitions → Definitions) : (s.onDt f).free = s.free := rfl
@[simp] theorem State.onDt_pending (s : State) (f : Definitions → Definitions) : (s.onDt f).pending = s.pending := rfl

@[simp] theorem State.onSc_li (s : State) (f : Stages → Stages) : (s.onSc f).li = s.li := rfl
@[simp] theorem State.onSc_dt (s : State) (f : Stages → Stages) : (s.onSc f).dt = s.dt := rfl
@[simp] theorem State.onSc_sc (s : State) (f : Stages → Stages) : (s.onSc f).sc = f s.sc := rfl
@[simp] theorem State.onSc_gs (s : State) (f : Stages → Stages) : (s.onSc f).gs = s.gs := rfl
@[simp] theorem State.onSc_du (s : State) (f : Stages → Stages) : (s.onSc f).du = s.du := rfl
@[simp] theorem State.onSc_ob (s : State) (f : Stages → Stages) : (s.onSc f).ob = s.ob := rfl
@[simp] theorem State.onSc_pu (s : State) (f : Stages → Stages) : (s.onSc f).pu = s.pu := rfl
@[simp] theorem State.onSc_csu (s : State) (f : Stages → Stages) : (s.onSc f).csu = s.csu := rfl
@[simp] theorem State.onSc_cm (s : State) (f : Stages → Stages) : (s.onSc f).cm = s.cm := rfl
@[simp] theorem State.onSc_fru (s : State) (f : Stages → Stages) : (s.onSc f).fru = s.fru := rfl
@[simp] theorem State.onSc_spc (s : State) (f : Stages → Stages) : (s.onSc f).spc = s.spc := rfl
@[simp] theorem State.onSc_ru (s : State) (f : Stages → Stages) : (s.onSc f).ru = s.ru := rfl
@[simp] theorem State.onSc_stc (s : State) (f : Stages → Stages) : (s.onSc f).stc = s.stc := rfl
@[simp] theorem State.onSc_uptime (s : State) (f : Stages → Stages) : (s.onSc f).uptime = s.uptime := rfl
@[simp] theorem State.onSc_subTick (s : State) (f : Stages → Stages) : (s.onSc f).subTick = s.subTick := rfl
@[simp] theorem State.onSc_loading (s : State) (f : Stages → Stages) : (s.onSc f).loading = s.loading := rfl
@[simp] theorem State.onSc_free (s : State) (f : Stages → Stages) : (s.onSc f).free = s.free := rfl
@[simp] theorem State.onSc_pending (s : State) (f : Stages → Stages) : (s.onSc f).pending = s.pending := rfl

@[simp] theorem State.onGs_li (s : State) (f : Sequencer → Sequencer) : (s.onGs f).li = s.li := rfl
@[simp] theorem State.onGs_dt (s : State) (f : Sequencer → Sequencer) : (s.onGs f).dt = s.dt := rfl
@[simp] theorem State.onGs_sc (s : State) (f : Sequencer → Sequencer) : (s.onGs f).sc = s.sc := rfl
@[simp] theorem State.onGs_gs (s : State) (f : Sequencer → Sequencer) : (s.onGs f).gs = f s.gs := rfl
@[simp] theorem State.onGs_du (s : State) (f : Sequencer → Sequencer) : (s.onGs f).du = s.du := rfl
@[simp] theorem State.onGs_ob (s : State) (f : Sequencer → Sequencer) : (s.onGs f).ob = s.ob := rfl
@[simp] theorem State.onGs_pu (s : State) (f : Sequencer → Sequencer) : (s.onGs f).pu = s.pu := rfl
@[simp] theorem State.onGs_csu (s : State) (f : Sequencer → Sequencer) : (s.onGs f).csu = s.csu := rfl
@[simp] theorem State.onGs_cm (s : State) (f : Sequencer → Sequencer) : (s.onGs f).cm = s.cm := rfl
@[simp] theorem State.onGs_fru (s : State) (f : Sequencer → Sequencer) : (s.onGs f).fru = s.fru := rfl
@[simp] theorem State.onGs_spc (s : State) (f : Sequencer → Sequencer) : (s.onGs f).spc = s.spc := rfl
@[simp] theorem State.onGs_ru (s : State) (f : Sequencer → Sequencer) : (s.onGs f).ru = s.ru := rfl
@[simp] theorem State.onGs_stc (s : State) (f : Sequencer → Sequencer) : (s.onGs f).stc = s.stc := rfl
@[simp] theorem State.onGs_uptime (s : State) (f : Sequencer → Sequencer) : (s.onGs f).uptime = s.uptime := rfl
@[simp] theorem State.onGs_subTick (s : State) (f : Sequencer → Sequencer) : (s.onGs f).subTick = s.subTick := rfl
@[simp] theorem State.onGs_loading (s : State) (f : Sequencer → Sequencer) : (s.onGs f).loading = s.loading := rfl
@[simp] theorem State.onGs_free (s : State) (f : Sequencer → Sequencer) : (s.onGs f).free = s.free := rfl
@[simp] theorem State.onGs_pending (s : State) (f : Sequencer → Sequencer) : (s.onGs f).pending = s.pending := rfl

@[simp] theorem State.onDu_li (s : State) (f : Detectors → Detectors) : (s.onDu f).li = s.li := rfl
@[simp] theorem State.onDu_dt (s : State) (f : Detectors → Detectors) : (s.onDu f).dt = s.dt := rfl
@[simp] theorem State.onDu_sc (s : State) (f : Detectors → Detectors) : (s.onDu f).sc = s.sc := rfl
@[simp] theorem State.onDu_gs (s : State) (f : Detectors → Detectors) : (s.onDu f).gs = s.gs := rfl
@[simp] theorem State.onDu_du (s : State) (f : Detectors → Detectors) : (s.onDu f).du = f s.du := rfl
@[simp] theorem State.onDu_ob (s : State) (f : Detectors → Detectors) : (s.onDu f).ob = s.ob := rfl
@[simp] theorem State.onDu_pu (s : State) (f : Detectors → Detectors) : (s.onDu f).pu = s.pu := rfl
@[simp] theorem State.onDu_csu (s : State) (f : Detectors → Detectors) : (s.onDu f).csu = s.csu := rfl
@[simp] theorem State.onDu_cm (s : State) (f : Detectors → Detectors) : (s.onDu f).cm = s.cm := rfl
@[simp] theorem State.onDu_fru (s : State) (f : Detectors → Detectors) : (s.onDu f).fru = s.fru := rfl
@[simp] theorem State.onDu_spc (s : State) (f : Detectors → Detectors) : (s.onDu f).spc = s.spc := rfl
@[simp] theorem State.onDu_ru (s : State) (f : Detectors → Detectors) : (s.onDu f).ru = s.ru := rfl
@[simp] theorem State.onDu_stc (s : State) (f : Detectors → Detectors) : (s.onDu f).stc = s.stc := rfl
@[simp] theorem State.onDu_uptime (s : State) (f : Detectors → Detectors) : (s.onDu f).uptime = s.uptime := rfl
@[simp] theorem State.onDu_subTick (s : State) (f : Detectors → Detectors) : (s.onDu f).subTick = s.subTick := rfl
@[simp] theorem State.onDu_loading (s : State) (f : Detectors → Detectors) : (s.onDu f).loading = s.loading := rfl
@[simp] theorem State.onDu_free (s : State) (f : Detectors → Detectors) : (s.onDu f).free = s.free := rfl
@[simp] theorem State.onDu_pending (s : State) (f : Detectors → Detectors) : (s.onDu f).pending = s.pending := rfl

@[simp] theorem State.onOb_li (s : State) (f : Banks → Banks) : (s.onOb f).li = s.li := rfl
@[simp] theorem State.onOb_dt (s : State) (f : Banks → Banks) : (s.onOb f).dt = s.dt := rfl
@[simp] theorem State.onOb_sc (s : State) (f : Banks → Banks) : (s.onOb f).sc = s.sc := rfl
@[simp] theorem State.onOb_gs (s : State) (f : Banks → Banks) : (s.onOb f).gs = s.gs := rfl
@[simp] theorem State.onOb_du (s : State) (f : Banks → Banks) : (s.onOb f).du = s.du := rfl
@[simp] theorem State.onOb_ob (s : State) (f : Banks → Banks) : (s.onOb f).ob = f s.ob := rfl
@[simp] theorem State.onOb_pu (s : State) (f : Banks → Banks) : (s.onOb f).pu = s.pu := rfl
@[simp] theorem State.onOb_csu (s : State) (f : Banks → Banks) : (s.onOb f).csu = s.csu := rfl
@[simp] theorem State.onOb_cm (s : State) (f : Banks → Banks) : (s.onOb f).cm = s.cm := rfl
@[simp] theorem State.onOb_fru (s : State) (f : Banks → Banks) : (s.onOb f).fru = s.fru := rfl
@[simp] theorem State.onOb_spc (s : State) (f : Banks → Banks) : (s.onOb f).spc = s.spc := rfl
@[simp] theorem State.onOb_ru (s : State) (f : Banks → Banks) : (s.onOb f).ru = s.ru := rfl
@[simp] theorem State.onOb_stc (s : State) (f : Banks → Banks) : (s.onOb f).stc = s.stc := rfl
@[simp] theorem State.onOb_uptime (s : State) (f : Banks → Banks) : (s.onOb f).uptime = s.uptime := rfl
@[simp] theorem State.onOb_subTick (s : State) (f : Banks → Banks) : (s.onOb f).subTick = s.subTick := rfl
@[simp] theorem State.onOb_loading (s : State) (f : Banks → Banks) : (s.onOb f).loading = s.loading := rfl
@[simp] theorem State.onOb_free (s : State) (f : Banks → Banks) : (s.onOb f).free = s.free := rfl
@[simp] theorem State.onOb_pending (s : State) (f : Banks → Banks) : (s.onOb f).pending = s.pending := rfl

@[simp] theorem State.onPu_li (s : State) (f : Proving → Proving) : (s.onPu f).li = s.li := rfl
@[simp] theorem State.onPu_dt (s : State) (f : Proving → Proving) : (s.onPu f).dt = s.dt := rfl
@[simp] theorem State.onPu_sc (s : State) (f : Proving → Proving) : (s.onPu f).sc = s.sc := rfl
@[simp] theorem State.onPu_gs (s : State) (f : Proving → Proving) : (s.onPu f).gs = s.gs := rfl
@[simp] theorem State.onPu_du (s : State) (f : Proving → Proving) : (s.onPu f).du = s.du := rfl
@[simp] theorem State.onPu_ob (s : State) (f : Proving → Proving) : (s.onPu f).ob = s.ob := rfl
@[simp] theorem State.onPu_pu (s : State) (f : Proving → Proving) : (s.onPu f).pu = f s.pu := rfl
@[simp] theorem State.onPu_csu (s : State) (f : Proving → Proving) : (s.onPu f).csu = s.csu := rfl
@[simp] theorem State.onPu_cm (s : State) (f : Proving → Proving) : (s.onPu f).cm = s.cm := rfl
@[simp] theorem State.onPu_fru (s : State) (f : Proving → Proving) : (s.onPu f).fru = s.fru := rfl
@[simp] theorem State.onPu_spc (s : State) (f : Proving → Proving) : (s.onPu f).spc = s.spc := rfl
@[simp] theorem State.onPu_ru (s : State) (f : Proving → Proving) : (s.onPu f).ru = s.ru := rfl
@[simp] theorem State.onPu_stc (s : State) (f : Proving → Proving) : (s.onPu f).stc = s.stc := rfl
@[simp] theorem State.onPu_uptime (s : State) (f : Proving → Proving) : (s.onPu f).uptime = s.uptime := rfl
@[simp] theorem State.onPu_subTick (s : State) (f : Proving → Proving) : (s.onPu f).subTick = s.subTick := rfl
@[simp] theorem State.onPu_loading (s : State) (f : Proving → Proving) : (s.onPu f).loading = s.loading := rfl
@[simp] theorem State.onPu_free (s : State) (f : Proving → Proving) : (s.onPu f).free = s.free := rfl
@[simp] theorem State.onPu_pending (s : State) (f : Proving → Proving) : (s.onPu f).pending = s.pending := rfl

@[simp] theorem State.onCsu_li (s : State) (f : CableUnit → CableUnit) : (s.onCsu f).li = s.li := rfl
@[simp] theorem State.onCsu_dt (s : State) (f : CableUnit → CableUnit) : (s.onCsu f).dt = s.dt := rfl
@[simp] theorem State.onCsu_sc (s : State) (f : CableUnit → CableUnit) : (s.onCsu f).sc = s.sc := rfl
@[simp] theorem State.onCsu_gs (s : State) (f : CableUnit → CableUnit) : (s.onCsu f).gs = s.gs := rfl
@[simp] theorem State.onCsu_du (s : State) (f : CableUnit → CableUnit) : (s.onCsu f).du = s.du := rfl
@[simp] theorem State.onCsu_ob (s : State) (f : CableUnit → CableUnit) : (s.onCsu f).ob = s.ob := rfl
@[simp] theorem State.onCsu_pu (s : State) (f : CableUnit → CableUnit) : (s.onCsu f).pu = s.pu := rfl
@[simp] theorem State.onCsu_csu (s : State) (f : CableUnit → CableUnit) : (s.onCsu f).csu = f s.csu := rfl
@[simp] theorem State.onCsu_cm (s : State) (f : CableUnit → CableUnit) : (s.onCsu f).cm = s.cm := rfl
@[simp] theorem State.onCsu_fru (s : State) (f : CableUnit → CableUnit) : (s.onCsu f).fru = s.fru := rfl
@[simp] theorem State.onCsu_spc (s : State) (f : CableUnit → CableUnit) : (s.onCsu f).spc = s.spc := rfl
@[simp] theorem State.onCsu_ru (s : State) (f : CableUnit → CableUnit) : (s.onCsu f).ru = s.ru := rfl
@[simp] theorem State.onCsu_stc (s : State) (f : CableUnit → CableUnit) : (s.onCsu f).stc = s.stc := rfl
@[simp] theorem State.onCsu_uptime (s : State) (f : CableUnit → CableUnit) : (s.onCsu f).uptime = s.uptime := rfl
@[simp] theorem State.onCsu_subTick (s : State) (f : CableUnit → CableUnit) : (s.onCsu f).subTick = s.subTick := rfl
@[simp] theorem State.onCsu_loading (s : State) (f : CableUnit → CableUnit) : (s.onCsu f).loading = s.loading := rfl
@[simp] theorem State.onCsu_free (s : State) (f : CableUnit → CableUnit) : (s.onCsu f).free = s.free := rfl
@[simp] theorem State.onCsu_pending (s : State) (f : CableUnit → CableUnit) : (s.onCsu f).pending = s.pending := rfl

@[simp] theorem State.onCm_li (s : State) (f : Monitor → Monitor) : (s.onCm f).li = s.li := rfl
@[simp] theorem State.onCm_dt (s : State) (f : Monitor → Monitor) : (s.onCm f).dt = s.dt := rfl
@[simp] theorem State.onCm_sc (s : State) (f : Monitor → Monitor) : (s.onCm f).sc = s.sc := rfl
@[simp] theorem State.onCm_gs (s : State) (f : Monitor → Monitor) : (s.onCm f).gs = s.gs := rfl
@[simp] theorem State.onCm_du (s : State) (f : Monitor → Monitor) : (s.onCm f).du = s.du := rfl
@[simp] theorem State.onCm_ob (s : State) (f : Monitor → Monitor) : (s.onCm f).ob = s.ob := rfl
@[simp] theorem State.onCm_pu (s : State) (f : Monitor → Monitor) : (s.onCm f).pu = s.pu := rfl
@[simp] theorem State.onCm_csu (s : State) (f : Monitor → Monitor) : (s.onCm f).csu = s.csu := rfl
@[simp] theorem State.onCm_cm (s : State) (f : Monitor → Monitor) : (s.onCm f).cm = f s.cm := rfl
@[simp] theorem State.onCm_fru (s : State) (f : Monitor → Monitor) : (s.onCm f).fru = s.fru := rfl
@[simp] theorem State.onCm_spc (s : State) (f : Monitor → Monitor) : (s.onCm f).spc = s.spc := rfl
@[simp] theorem State.onCm_ru (s : State) (f : Monitor → Monitor) : (s.onCm f).ru = s.ru := rfl
@[simp] theorem State.onCm_stc (s : State) (f : Monitor → Monitor) : (s.onCm f).stc = s.stc := rfl
@[simp] theorem State.onCm_uptime (s : State) (f : Monitor → Monitor) : (s.onCm f).uptime = s.uptime := rfl
@[simp] theorem State.onCm_subTick (s : State) (f : Monitor → Monitor) : (s.onCm f).subTick = s.subTick := rfl
@[simp] theorem State.onCm_loading (s : State) (f : Monitor → Monitor) : (s.onCm f).loading = s.loading := rfl
@[simp] theorem State.onCm_free (s : State) (f : Monitor → Monitor) : (s.onCm f).free = s.free := rfl
@[simp] theorem State.onCm_pending (s : State) (f : Monitor → Monitor) : (s.onCm f).pending = s.pending := rfl

@[simp] theorem State.onFru_li (s : State) (f : Response → Response) : (s.onFru f).li = s.li := rfl
@[simp] theorem State.onFru_dt (s : State) (f : Response → Response) : (s.onFru f).dt = s.dt := rfl
@[simp] theorem State.onFru_sc (s : State) (f : Response → Response) : (s.onFru f).sc = s.sc := rfl
@[simp] theorem State.onFru_gs (s : State) (f : Response → Response) : (s.onFru f).gs = s.gs := rfl
@[simp] theorem State.onFru_du (s : State) (f : Response → Response) : (s.onFru f).du = s.du := rfl
@[simp] theorem State.onFru_ob (s : State) (f : Response → Response) : (s.onFru f).ob = s.ob := rfl
@[simp] theorem State.onFru_pu (s : State) (f : Response → Response) : (s.onFru f).pu = s.pu := rfl
@[simp] theorem State.onFru_csu (s : State) (f : Response → Response) : (s.onFru f).csu = s.csu := rfl
@[simp] theorem State.onFru_cm (s : State) (f : Response → Response) : (s.onFru f).cm = s.cm := rfl
@[simp] theorem State.onFru_fru (s : State) (f : Response → Response) : (s.onFru f).fru = f s.fru := rfl
@[simp] theorem State.onFru_spc (s : State) (f : Response → Response) : (s.onFru f).spc = s.spc := rfl
@[simp] theorem State.onFru_ru (s : State) (f : Response → Response) : (s.onFru f).ru = s.ru := rfl
@[simp] theorem State.onFru_stc (s : State) (f : Response → Response) : (s.onFru f).stc = s.stc := rfl
@[simp] theorem State.onFru_uptime (s : State) (f : Response → Response) : (s.onFru f).uptime = s.uptime := rfl
@[simp] theorem State.onFru_subTick (s : State) (f : Response → Response) : (s.onFru f).subTick = s.subTick := rfl
@[simp] theorem State.onFru_loading (s : State) (f : Response → Response) : (s.onFru f).loading = s.loading := rfl
@[simp] theorem State.onFru_free (s : State) (f : Response → Response) : (s.onFru f).free = s.free := rfl
@[simp] theorem State.onFru_pending (s : State) (f : Response → Response) : (s.onFru f).pending = s.pending := rfl

@[simp] theorem State.onSpc_li (s : State) (f : Supply → Supply) : (s.onSpc f).li = s.li := rfl
@[simp] theorem State.onSpc_dt (s : State) (f : Supply → Supply) : (s.onSpc f).dt = s.dt := rfl
@[simp] theorem State.onSpc_sc (s : State) (f : Supply → Supply) : (s.onSpc f).sc = s.sc := rfl
@[simp] theorem State.onSpc_gs (s : State) (f : Supply → Supply) : (s.onSpc f).gs = s.gs := rfl
@[simp] theorem State.onSpc_du (s : State) (f : Supply → Supply) : (s.onSpc f).du = s.du := rfl
@[simp] theorem State.onSpc_ob (s : State) (f : Supply → Supply) : (s.onSpc f).ob = s.ob := rfl
@[simp] theorem State.onSpc_pu (s : State) (f : Supply → Supply) : (s.onSpc f).pu = s.pu := rfl
@[simp] theorem State.onSpc_csu (s : State) (f : Supply → Supply) : (s.onSpc f).csu = s.csu := rfl
@[simp] theorem State.onSpc_cm (s : State) (f : Supply → Supply) : (s.onSpc f).cm = s.cm := rfl
@[simp] theorem State.onSpc_fru (s : State) (f : Supply → Supply) : (s.onSpc f).fru = s.fru := rfl
@[simp] theorem State.onSpc_spc (s : State) (f : Supply → Supply) : (s.onSpc f).spc = f s.spc := rfl
@[simp] theorem State.onSpc_ru (s : State) (f : Supply → Supply) : (s.onSpc f).ru = s.ru := rfl
@[simp] theorem State.onSpc_stc (s : State) (f : Supply → Supply) : (s.onSpc f).stc = s.stc := rfl
@[simp] theorem State.onSpc_uptime (s : State) (f : Supply → Supply) : (s.onSpc f).uptime = s.uptime := rfl
@[simp] theorem State.onSpc_subTick (s : State) (f : Supply → Supply) : (s.onSpc f).subTick = s.subTick := rfl
@[simp] theorem State.onSpc_loading (s : State) (f : Supply → Supply) : (s.onSpc f).loading = s.loading := rfl
@[simp] theorem State.onSpc_free (s : State) (f : Supply → Supply) : (s.onSpc f).free = s.free := rfl
@[simp] theorem State.onSpc_pending (s : State) (f : Supply → Supply) : (s.onSpc f).pending = s.pending := rfl

@[simp] theorem State.onRu_li (s : State) (f : Recording → Recording) : (s.onRu f).li = s.li := rfl
@[simp] theorem State.onRu_dt (s : State) (f : Recording → Recording) : (s.onRu f).dt = s.dt := rfl
@[simp] theorem State.onRu_sc (s : State) (f : Recording → Recording) : (s.onRu f).sc = s.sc := rfl
@[simp] theorem State.onRu_gs (s : State) (f : Recording → Recording) : (s.onRu f).gs = s.gs := rfl
@[simp] theorem State.onRu_du (s : State) (f : Recording → Recording) : (s.onRu f).du = s.du := rfl
@[simp] theorem State.onRu_ob (s : State) (f : Recording → Recording) : (s.onRu f).ob = s.ob := rfl
@[simp] theorem State.onRu_pu (s : State) (f : Recording → Recording) : (s.onRu f).pu = s.pu := rfl
@[simp] theorem State.onRu_csu (s : State) (f : Recording → Recording) : (s.onRu f).csu = s.csu := rfl
@[simp] theorem State.onRu_cm (s : State) (f : Recording → Recording) : (s.onRu f).cm = s.cm := rfl
@[simp] theorem State.onRu_fru (s : State) (f : Recording → Recording) : (s.onRu f).fru = s.fru := rfl
@[simp] theorem State.onRu_spc (s : State) (f : Recording → Recording) : (s.onRu f).spc = s.spc := rfl
@[simp] theorem State.onRu_ru (s : State) (f : Recording → Recording) : (s.onRu f).ru = f s.ru := rfl
@[simp] theorem State.onRu_stc (s : State) (f : Recording → Recording) : (s.onRu f).stc = s.stc := rfl
@[simp] theorem State.onRu_uptime (s : State) (f : Recording → Recording) : (s.onRu f).uptime = s.uptime := rfl
@[simp] theorem State.onRu_subTick (s : State) (f : Recording → Recording) : (s.onRu f).subTick = s.subTick := rfl
@[simp] theorem State.onRu_loading (s : State) (f : Recording → Recording) : (s.onRu f).loading = s.loading := rfl
@[simp] theorem State.onRu_free (s : State) (f : Recording → Recording) : (s.onRu f).free = s.free := rfl
@[simp] theorem State.onRu_pending (s : State) (f : Recording → Recording) : (s.onRu f).pending = s.pending := rfl

@[simp] theorem State.onStc_li (s : State) (f : Store → Store) : (s.onStc f).li = s.li := rfl
@[simp] theorem State.onStc_dt (s : State) (f : Store → Store) : (s.onStc f).dt = s.dt := rfl
@[simp] theorem State.onStc_sc (s : State) (f : Store → Store) : (s.onStc f).sc = s.sc := rfl
@[simp] theorem State.onStc_gs (s : State) (f : Store → Store) : (s.onStc f).gs = s.gs := rfl
@[simp] theorem State.onStc_du (s : State) (f : Store → Store) : (s.onStc f).du = s.du := rfl
@[simp] theorem State.onStc_ob (s : State) (f : Store → Store) : (s.onStc f).ob = s.ob := rfl
@[simp] theorem State.onStc_pu (s : State) (f : Store → Store) : (s.onStc f).pu = s.pu := rfl
@[simp] theorem State.onStc_csu (s : State) (f : Store → Store) : (s.onStc f).csu = s.csu := rfl
@[simp] theorem State.onStc_cm (s : State) (f : Store → Store) : (s.onStc f).cm = s.cm := rfl
@[simp] theorem State.onStc_fru (s : State) (f : Store → Store) : (s.onStc f).fru = s.fru := rfl
@[simp] theorem State.onStc_spc (s : State) (f : Store → Store) : (s.onStc f).spc = s.spc := rfl
@[simp] theorem State.onStc_ru (s : State) (f : Store → Store) : (s.onStc f).ru = s.ru := rfl
@[simp] theorem State.onStc_stc (s : State) (f : Store → Store) : (s.onStc f).stc = f s.stc := rfl
@[simp] theorem State.onStc_uptime (s : State) (f : Store → Store) : (s.onStc f).uptime = s.uptime := rfl
@[simp] theorem State.onStc_subTick (s : State) (f : Store → Store) : (s.onStc f).subTick = s.subTick := rfl
@[simp] theorem State.onStc_loading (s : State) (f : Store → Store) : (s.onStc f).loading = s.loading := rfl
@[simp] theorem State.onStc_free (s : State) (f : Store → Store) : (s.onStc f).free = s.free := rfl
@[simp] theorem State.onStc_pending (s : State) (f : Store → Store) : (s.onStc f).pending = s.pending := rfl

end Sys2Proof.Machine
end

