-- ==== Sys2Proof/Laws/Table.lean ====
section
/-! SUPPORT. What the operations on keyed tables do to the value at a number: one lemma per operation and question; and the first number of
a round or a range that meets a test. -/

set_option Elab.async false

namespace Sys2Proof.Machine

variable {α β : Type}

@[simp] theorem tget?_nil (k : Nat) : tget? ([] : Table α) k = none := rfl

theorem tget?_cons (e : Nat × α) (t : Table α) (k : Nat) :
    tget? (e :: t) k = if e.1 = k then some e.2 else tget? t k := rfl

/-- A value put is the value found, whatever the table's order. -/
@[simp] theorem tget?_tput_self (t : Table α) (k : Nat) (v : α) : tget? (tput t k v) k = some v := by
  induction t with
  | nil => simp [tput, tget?_cons]
  | cons e t ih =>
    unfold tput
    split
    · simp [tget?_cons]
    · split
      · simp [tget?_cons]
      · rename_i h1 h2
        have h : e.1 ≠ k := fun h => h2 h.symm
        simp [tget?_cons, h, ih]

/-- A value put at one number leaves every other number's value. -/
theorem tget?_tput_of_ne {k j : Nat} (t : Table α) (v : α) (h : j ≠ k) : tget? (tput t k v) j = tget? t j := by
  induction t with
  | nil => simp [tput, tget?_cons, Ne.symm h]
  | cons e t ih =>
    unfold tput
    split
    · simp [tget?_cons, Ne.symm h]
    · split
      · rename_i h1 h2
        subst h2
        simp [tget?_cons, Ne.symm h]
      · simp [tget?_cons, ih]

/-- A change at a number changes the value found there. -/
@[simp] theorem tget?_tupd_self (t : Table α) (k : Nat) (f : α → α) : tget? (tupd t k f) k = (tget? t k).map f := by
  induction t with
  | nil => rfl
  | cons e t ih =>
    unfold tupd at ih ⊢
    by_cases h : e.1 = k <;> simp [tget?_cons, h, ih]

/-- A change at one number leaves every other number's value. -/
theorem tget?_tupd_of_ne {k j : Nat} (t : Table α) (f : α → α) (h : j ≠ k) : tget? (tupd t k f) j = tget? t j := by
  induction t with
  | nil => rfl
  | cons e t ih =>
    unfold tupd at ih ⊢
    by_cases he : e.1 = k
    · have hj : e.1 ≠ j := fun hh => h (hh ▸ he)
      simp [tget?_cons, he, ih, Ne.symm h]
    · simp [tget?_cons, he, ih]

/-- A change of every value changes the value found at each number. -/
@[simp] theorem tget?_tmap (t : Table α) (f : Nat → α → β) (k : Nat) : tget? (tmap t f) k = (tget? t k).map (f k) := by
  induction t with
  | nil => rfl
  | cons e t ih =>
    unfold tmap at ih ⊢
    by_cases h : e.1 = k
    · subst h; simp [tget?_cons]
    · simp [tget?_cons, h, ih]

@[simp] theorem tkeys_tmap (t : Table α) (f : Nat → α → β) : tkeys (tmap t f) = tkeys t := by
  simp [tkeys, tmap, Function.comp_def]

@[simp] theorem tkeys_tupd (t : Table α) (k : Nat) (f : α → α) : tkeys (tupd t k f) = tkeys t := by
  simp only [tkeys, tupd, List.map_map]
  apply List.map_congr_left
  intro e _
  by_cases h : e.1 = k <;> simp [h]

/-- A number with a value is the key of one of the entries. -/
theorem mem_of_tget? {t : Table α} {k : Nat} {v : α} (h : tget? t k = some v) : (k, v) ∈ t := by
  induction t with
  | nil => simp at h
  | cons e t ih =>
    rw [tget?_cons] at h
    split at h
    · rename_i he
      cases h
      subst he
      exact List.mem_cons_self
    · exact List.mem_cons_of_mem _ (ih h)

/-- An entry of a table with a value put is the new one or an old one. -/
theorem mem_tput {t : Table α} {k : Nat} {v : α} {e : Nat × α} (h : e ∈ tput t k v) : e = (k, v) ∨ e ∈ t := by
  induction t with
  | nil => exact .inl (by simpa [tput] using h)
  | cons e' t ih =>
    unfold tput at h
    split at h
    · simpa using h
    · split at h
      · rcases List.mem_cons.1 h with h | h
        · exact .inl h
        · exact .inr (List.mem_cons_of_mem _ h)
      · rcases List.mem_cons.1 h with h | h
        · exact .inr (h ▸ List.mem_cons_self)
        · exact (ih h).imp id (List.mem_cons_of_mem _)

/-! ### Rounds and ranges of numbers -/

/-- n + 1 held at a top is the lesser of n + 1 and the top. -/
theorem satInc_eq_min (top n : Nat) : satInc top n = min top (n + 1) := by
  unfold satInc; split <;> omega

/-- The first of a rising list to meet a test, by what the list holds below it. -/
theorem find?_of_rising {l : List Nat} (h : l.Pairwise (· < ·)) (p : Nat → Bool) (c : Nat) :
    l.find? p = some c ↔ c ∈ l ∧ p c = true ∧ ∀ k ∈ l, k < c → p k = false := by
  induction l with
  | nil => simp
  | cons a l ih =>
    obtain ⟨ha, hl⟩ := List.pairwise_cons.mp h
    by_cases hp : p a = true
    · rw [List.find?_cons_of_pos hp]
      constructor
      · rintro ⟨⟩
        exact ⟨.head _, hp, fun k hk hlt => (List.mem_cons.mp hk).elim (by omega) fun hk => by have := ha k hk; omega⟩
      · rintro ⟨hc, -, hall⟩
        rcases List.mem_cons.mp hc with rfl | hc
        · rfl
        · simpa [hp] using hall a (.head _) (ha c hc)
    · rw [List.find?_cons_of_neg hp, ih hl]
      constructor
      · rintro ⟨hc, hpc, hall⟩
        exact ⟨.tail _ hc, hpc, fun k hk hlt => (List.mem_cons.mp hk).elim (fun e => by simpa [e] using hp) fun hk => hall k hk hlt⟩
      · rintro ⟨hc, hpc, hall⟩
        rcases List.mem_cons.mp hc with rfl | hc
        · exact absurd hpc hp
        · exact ⟨hc, hpc, fun k hk => hall k (.tail _ hk)⟩

/-- The numbers 1 to a top. -/
theorem mem_numbers (top k : Nat) : k ∈ (List.range top).map (· + 1) ↔ 1 ≤ k ∧ k ≤ top := by
  simp only [List.mem_map, List.mem_range]
  exact ⟨fun ⟨a, ha, e⟩ => by omega, fun h => ⟨k - 1, by omega, by omega⟩⟩

/-- The numbers 1 to a top rise. -/
theorem numbers_rise (top : Nat) : ((List.range top).map (· + 1)).Pairwise (· < ·) := by
  rw [List.pairwise_map]
  exact List.pairwise_lt_range.imp (by omega)

/-- The first of the numbers 1 to a top to meet a test. -/
theorem find?_numbers (top : Nat) (p : Nat → Bool) (c : Nat) :
    ((List.range top).map (· + 1)).find? p = some c ↔
      1 ≤ c ∧ c ≤ top ∧ p c = true ∧ ∀ k, 1 ≤ k → k < c → p k = false := by
  rw [find?_of_rising (numbers_rise top)]
  simp only [mem_numbers]
  exact ⟨fun ⟨h, hp, ha⟩ => ⟨h.1, h.2, hp, fun k a b => ha k ⟨a, by omega⟩ b⟩,
    fun ⟨h, h', hp, ha⟩ => ⟨⟨h, h'⟩, hp, fun k hk b => ha k hk.1 b⟩⟩

/-- A round finds the first number from its cursor up that meets a test, or the first from 1 where none from the cursor up
does. -/
theorem find?_roundFrom (cursor top : Nat) (p : Nat → Bool) (c : Nat) :
    (roundFrom cursor top).find? p = some c ↔
      1 ≤ c ∧ c ≤ top ∧ p c = true
        ∧ ((cursor ≤ c ∧ ∀ k, 1 ≤ k → cursor ≤ k → k < c → p k = false)
          ∨ (c < cursor ∧ (∀ k, 1 ≤ k → cursor ≤ k → k ≤ top → p k = false) ∧ ∀ k, 1 ≤ k → k < c → p k = false)) := by
  have up := (numbers_rise top).filter (fun k => decide (cursor ≤ k))
  have down := (numbers_rise top).filter (fun k => decide (k < cursor))
  unfold roundFrom
  rw [List.find?_append, Option.or_eq_some_iff, find?_of_rising up, find?_of_rising down, List.find?_eq_none]
  simp only [List.mem_filter, mem_numbers, decide_eq_true_eq]
  constructor
  · rintro (⟨⟨⟨h1, h2⟩, h3⟩, hp, ha⟩ | ⟨hn, ⟨⟨h1, h2⟩, h3⟩, hp, ha⟩)
    · exact ⟨h1, h2, hp, .inl ⟨h3, fun k a b d => ha k ⟨⟨a, by omega⟩, b⟩ d⟩⟩
    · exact ⟨h1, h2, hp, .inr ⟨h3, fun k a b d => by simpa using hn k ⟨⟨a, d⟩, b⟩,
        fun k a d => ha k ⟨⟨a, by omega⟩, by omega⟩ d⟩⟩
  · rintro ⟨h1, h2, hp, ⟨h3, ha⟩ | ⟨h3, hn, ha⟩⟩
    · exact .inl ⟨⟨⟨h1, h2⟩, h3⟩, hp, fun k hk d => ha k hk.1.1 hk.2 d⟩
    · exact .inr ⟨fun k hk => by simp [hn k hk.1.1 hk.2 hk.1.2], ⟨⟨h1, h2⟩, h3⟩, hp, fun k hk d => ha k hk.1.1 d⟩

end Sys2Proof.Machine
end

