-- ==== Sys2Proof/Laws/Moves.lean ====
section
/-! SUPPORT. The footprint of the operations that move groups and stages, and of the end of a step: which blocks and fields
each can change. The relation `Moves` composes, so each lemma is one line over the operations it is built from. -/

set_option Elab.async false

namespace Sys2Proof.Machine

open Sys2Proof.Claims

/-- Only the SC's running state, the groups and the groups' service records differ. -/
structure Moves (s t : State) : Prop where
  rest : t = { s with sc := t.sc, gs := t.gs, ru := t.ru }
  ru : t.ru = { s.ru with groups := t.ru.groups }
  slots : t.sc.slots = s.sc.slots
  staging : t.sc.staging = s.sc.staging

theorem Moves.refl (s : State) : Moves s s := ⟨rfl, rfl, rfl, rfl⟩

theorem Moves.trans {s t u : State} (h : Moves s t) (k : Moves t u) : Moves s u := by
  refine ⟨?_, ?_, k.slots.trans h.slots, k.staging.trans h.staging⟩
  · have h1 := h.rest; have k1 := k.rest
    rw [h1] at k1
    exact k1
  · have h1 := h.ru; have k1 := k.ru
    rw [h1] at k1
    exact k1

theorem Moves.dt {s t : State} (h : Moves s t) : t.dt = s.dt := by rw [h.rest]
theorem Moves.fru {s t : State} (h : Moves s t) : t.fru = s.fru := by rw [h.rest]
theorem Moves.du {s t : State} (h : Moves s t) : t.du = s.du := by rw [h.rest]
theorem Moves.uptime {s t : State} (h : Moves s t) : t.uptime = s.uptime := by rw [h.rest]

/-- A change of the SC that keeps the slots and staging. -/
theorem Moves.onSc (s : State) (f : Stages → Stages) (h1 : (f s.sc).slots = s.sc.slots)
    (h2 : (f s.sc).staging = s.sc.staging) : Moves s (s.onSc f) := ⟨rfl, rfl, h1, h2⟩

/-- Any change of the GS. -/
theorem Moves.onGs (s : State) (f : Sequencer → Sequencer) : Moves s (s.onGs f) := ⟨rfl, rfl, rfl, rfl⟩

/-- A change of one group's service record. -/
theorem Moves.updGroup (s : State) (g : Nat) (f : GroupService → GroupService) :
    Moves s (s.onRu fun r => r.updGroup g f) := ⟨rfl, rfl, rfl, rfl⟩

theorem Moves.when {s : State} (c : Bool) {f : State → State} (h : Moves s (f s)) : Moves s (s.when c f) := by
  unfold State.when
  split
  · exact h
  · exact Moves.refl s

theorem Moves.forEach (l : List Nat) (f : Nat → State → State) (h : ∀ n s, Moves s (f n s)) (s : State) :
    Moves s (Machine.forEach l f s) := by
  unfold Machine.forEach
  induction l generalizing s with
  | nil => exact Moves.refl s
  | cons n l ih => exact (h n s).trans (ih (f n s))

theorem moves_addDemand (s : State) (o : Origin) (g : Nat) : Moves s (s.addDemand o g) := by
  unfold State.addDemand
  split
  · exact Moves.refl s
  · split
    · exact Moves.onSc s _ rfl rfl
    · exact (Moves.onSc s _ rfl rfl).trans (Moves.updGroup _ g _)

theorem moves_scGreenEnd (s : State) (g : Nat) : Moves s (s.scGreenEnd g) := by
  unfold State.scGreenEnd
  dsimp only
  refine Moves.trans ?_ (Moves.when _ (moves_addDemand _ .detector g))
  exact Moves.trans (Moves.onSc s _ rfl rfl) (Moves.when _ (moves_addDemand _ .recalled g))

theorem moves_endGreen (s : State) (cause : EndCause) (next : Aspect) (g : Nat) : Moves s (s.endGreen cause next g) :=
  ((Moves.onGs s _).trans (Moves.updGroup _ g _)).trans (moves_scGreenEnd _ g)

theorem moves_endIfDue (s : State) (g : Nat) : Moves s (s.endIfDue g) := by
  unfold State.endIfDue
  split
  · exact Moves.refl s
  · exact Moves.when _ (moves_endGreen _ _ _ g)

theorem moves_startGreen (s : State) (g : Nat) : Moves s (s.startGreen g) :=
  ((Moves.onGs s _).trans ((Moves.onSc _ _ rfl rfl).trans (Moves.onSc _ _ rfl rfl))).trans (Moves.updGroup _ g _)

theorem moves_gsRequest (s : State) (set : GroupSet) : Moves s (s.gsRequest set) := by
  unfold State.gsRequest
  split
  · exact Moves.refl s
  · exact (Moves.onGs s _).trans (Moves.forEach _ _ (fun n s => moves_endIfDue s n) _)

theorem moves_requestStage (s : State) (p : Plan) (k : Nat) : Moves s (s.requestStage p k) := by
  unfold State.requestStage
  split
  · exact Moves.refl s
  · exact (Moves.onSc s _ rfl rfl).trans (moves_gsRequest _ _)

theorem moves_checkEstablished (s : State) : Moves s s.checkEstablished := by
  unfold State.checkEstablished
  split
  · exact Moves.refl s
  · exact Moves.when _ ((Moves.onGs s _).trans (Moves.onSc _ _ rfl rfl))

theorem moves_tagEnding (s : State) (a b : GroupSet) : Moves s (s.tagEnding a b) :=
  Moves.forEach _ _ (fun n s => Moves.updGroup s n _) s

theorem takePending_slots (c : Stages) : c.takePending.slots = c.slots := by
  unfold Stages.takePending
  split <;> rfl

theorem takePending_staging (c : Stages) : c.takePending.staging = c.staging := by
  unfold Stages.takePending
  split <;> rfl

theorem moves_startPlan (s : State) : Moves s s.startPlan := by
  unfold State.startPlan
  dsimp only
  split
  · exact Moves.onSc s _ rfl rfl
  · exact (Moves.onSc s _ rfl rfl).trans (moves_requestStage _ _ _)

theorem moves_takeOverInRun (s : State) : Moves s s.takeOverInRun :=
  (Moves.onSc s _ (takePending_slots _) (takePending_staging _)).trans (moves_startPlan _)

theorem moves_endStage (s : State) (p : Plan) (st : Stage) (n : Nat) : Moves s (s.endStage p st n) := by
  unfold State.endStage
  split
  · exact (moves_tagEnding s _ _).trans (moves_requestStage _ _ _)
  · exact Moves.refl s

theorem moves_decideStage (s : State) (p : Plan) (k : Nat) (st : Stage) : Moves s (s.decideStage p k st) := by
  unfold State.decideStage
  split
  · exact moves_requestStage s p _
  · dsimp only
    split
    · exact moves_takeOverInRun s
    · split
      · split
        · exact moves_endStage s p st _
        · exact Moves.refl s
      · exact Moves.refl s

theorem moves_scDecide (s : State) : Moves s s.scDecide := by
  unfold State.scDecide
  split
  · split
    · split
      · exact moves_decideStage s _ _ _
      · exact Moves.refl s
    · exact Moves.refl s
  · exact Moves.refl s

/-- Outside RUN nothing is established. -/
theorem checkEstablished_of_ne_run {s : State} (h : s.fru.mode ≠ .run) : s.checkEstablished = s := by
  unfold State.checkEstablished
  split
  · rfl
  · simp [State.when, h]

/-- Outside RUN the SC decides nothing. -/
theorem scDecide_of_ne_run {s : State} (h : s.fru.mode ≠ .run) : s.scDecide = s := by
  unfold State.scDecide State.running?
  simp [h]

/-- An interruption changes the pattern test in progress and the injector's priority list alone. -/
theorem interrupt_frame (u : CableUnit) (p : Nat → Bool) :
    u.interrupt p = { u with test := (u.interrupt p).test, crossList := (u.interrupt p).crossList } := by
  unfold CableUnit.interrupt
  split
  · rfl
  · split <;> rfl

/-- The commands, manners and pattern test as the outputs follow the groups and the mode. -/
theorem refreshCommands_outputs (s : State) :
    s.refreshCommands = { s with ob := s.refreshCommands.ob, pu := s.refreshCommands.pu, csu := s.refreshCommands.csu }
      ∧ OutputsFollow s s.refreshCommands := by
  refine ⟨rfl, ?_, ?_, ?_⟩
  · simp [commandsApart, State.refreshCommands, State.onOb, State.onPu, State.onCsu, tmap, Function.comp_def]
  · simp [mannersApart, State.refreshCommands, State.onOb, State.onPu, State.onCsu, tmap, Function.comp_def]
  · exact interrupt_frame s.csu _

/-- The end of a step, whatever the state: what it may change is said by `Settles`. -/
theorem finish_settles (s : State) : Settles s s.finish := by
  have hA : ∀ s : State, s.checkAtRest = { s with fru := { s.fru with allRed := s.checkAtRest.fru.allRed } } := by
    intro s
    unfold State.checkAtRest State.when
    split <;> rfl
  obtain ⟨a, ha⟩ : ∃ a, s.checkAtRest = { s with fru := { s.fru with allRed := a } } := ⟨_, hA s⟩
  have hM : Moves s.checkAtRest (s.checkAtRest.checkEstablished.scDecide.checkEstablished) :=
    ((moves_checkEstablished _).trans (moves_scDecide _)).trans (moves_checkEstablished _)
  obtain ⟨hR, hO⟩ := refreshCommands_outputs (s.checkAtRest.checkEstablished.scDecide.checkEstablished)
  have hrun : s.fru.mode ≠ .run →
      s.checkAtRest.checkEstablished.scDecide.checkEstablished = s.checkAtRest := by
    intro hm
    have h1 : s.checkAtRest.fru.mode ≠ .run := by rw [ha]; exact hm
    rw [checkEstablished_of_ne_run h1, scDecide_of_ne_run h1, checkEstablished_of_ne_run h1]
  unfold State.finish
  generalize hu : s.checkAtRest.checkEstablished.scDecide.checkEstablished = u at *
  generalize u.refreshCommands = t at *
  have hu1 := hM.rest
  have hu2 := hM.ru
  have hu3 := hM.slots
  have hu4 := hM.staging
  rw [ha] at hu1 hu2 hu3 hu4 hrun
  refine ⟨?_, ?_, ?_, ?_, ?_, ?_, ?_⟩
  · rw [hR, hu1]
  · rw [hR, hu1]
  · rw [hR]; exact hu2
  · rw [hR]; exact hu3
  · rw [hR]; exact hu4
  · intro hm
    rw [hR, hrun hm]
    exact ⟨rfl, rfl, rfl⟩
  · obtain ⟨h1, h2, h3⟩ := hO
    rw [hu1] at h1 h2 h3
    exact ⟨h1, h2, h3⟩

end Sys2Proof.Machine
end

