-- ==== Sys2Proof/Laws/Modes.lean ====
section
/-! SUPPORT. What a change of junction mode and the lockout set's recomputation can change. -/

set_option Elab.async false

namespace Sys2Proof.Machine

open Sys2Proof.Claims

/-- Only the SC's running state, the groups, the service records with the notice queue, the FRU apart from the fault table,
and the contactor by an open order differ. -/
structure Shifts (s t : State) : Prop where
  rest : t = { s with sc := t.sc, gs := t.gs, ru := t.ru, fru := t.fru, spc := t.spc }
  dets : t.ru.dets = s.ru.dets
  active : t.ru.active = s.ru.active
  slots : t.sc.slots = s.sc.slots
  staging : t.sc.staging = s.sc.staging
  spc : t.spc = s.spc ∨ t.spc = s.spc.orderOpen

theorem Shifts.dt {s t : State} (h : Shifts s t) : t.dt = s.dt := by rw [h.rest]
theorem Shifts.uptime {s t : State} (h : Shifts s t) : t.uptime = s.uptime := by rw [h.rest]
theorem Shifts.ob {s t : State} (h : Shifts s t) : t.ob = s.ob := by rw [h.rest]
theorem Shifts.pu {s t : State} (h : Shifts s t) : t.pu = s.pu := by rw [h.rest]
theorem Shifts.csu {s t : State} (h : Shifts s t) : t.csu = s.csu := by rw [h.rest]

/-- The open order changes nothing the second time. -/
theorem orderOpen_idem (p : Supply) : p.orderOpen.orderOpen = p.orderOpen := by
  unfold Supply.orderOpen
  cases h : p.contactor <;> simp [Supply.setContactor, h]

theorem Shifts.refl (s : State) : Shifts s s := ⟨rfl, rfl, rfl, rfl, rfl, .inl rfl⟩

theorem Shifts.trans {s t u : State} (h : Shifts s t) (k : Shifts t u) : Shifts s u := by
  refine ⟨?_, k.dets.trans h.dets, k.active.trans h.active, k.slots.trans h.slots, k.staging.trans h.staging, ?_⟩
  · have h1 := h.rest; have k1 := k.rest
    rw [h1] at k1
    exact k1
  · rcases h.spc with h1 | h1 <;> rcases k.spc with k1 | k1
    · exact .inl (k1.trans h1)
    · exact .inr (k1.trans (by rw [h1]))
    · exact .inr (k1.trans h1)
    · exact .inr (k1.trans (by rw [h1, orderOpen_idem]))

theorem Moves.shifts {s t : State} (h : Moves s t) : Shifts s t := by
  refine ⟨?_, by rw [h.ru], by rw [h.ru], h.slots, h.staging, .inl (by rw [h.rest])⟩
  have h1 := h.rest
  rw [h1]

theorem Shifts.onFru (s : State) (f : Response → Response) : Shifts s (s.onFru f) := ⟨rfl, rfl, rfl, rfl, rfl, .inl rfl⟩

theorem Shifts.onRu (s : State) (f : Recording → Recording) (h1 : (f s.ru).dets = s.ru.dets)
    (h2 : (f s.ru).active = s.ru.active) : Shifts s (s.onRu f) := ⟨rfl, h1, h2, rfl, rfl, .inl rfl⟩

theorem Shifts.when {s : State} (c : Bool) {f : State → State} (h : Shifts s (f s)) : Shifts s (s.when c f) := by
  unfold State.when
  split
  · exact h
  · exact Shifts.refl s

theorem moves_emptyTarget (s : State) : Moves s s.emptyTarget := Moves.onGs s _

theorem moves_clearGroup (s : State) (g : Nat) : Moves s (s.clearGroup g) := by
  unfold State.clearGroup
  split
  · exact moves_endGreen _ _ _ g
  · exact Moves.onGs s _
  · exact Moves.refl s

theorem moves_cutGroup (cause : EndCause) (s : State) (g : Nat) : Moves s (s.cutGroup cause g) := by
  unfold State.cutGroup
  split
  · exact moves_endGreen _ _ _ g
  · exact Moves.onGs s _

theorem moves_gsCut (s : State) (cause : EndCause) : Moves s (s.gsCut cause) :=
  (moves_emptyTarget s).trans (Moves.forEach _ _ (fun g s => moves_cutGroup cause s g) _)

theorem moves_gsClear (s : State) : Moves s s.gsClear :=
  (moves_emptyTarget s).trans (Moves.forEach _ _ (fun g s => moves_clearGroup s g) _)

theorem moves_gsEnter (s : State) (old new : Mode) : Moves s (s.gsEnter old new) := by
  unfold State.gsEnter
  split
  · exact moves_gsClear s
  · split
    · exact Moves.refl s
    · exact (moves_gsCut s _).trans (Moves.onGs _ _)
  · split
    · exact Moves.refl s
    · exact (moves_gsCut s _).trans (Moves.onGs _ _)
  · split
    · exact Moves.refl s
    · exact moves_gsCut s _
  · split
    · exact Moves.refl s
    · exact moves_gsCut s _
  · exact (moves_emptyTarget s).trans (Moves.onGs _ _)
  · exact moves_emptyTarget s

theorem addNotice_dets (r : Recording) (n : Notice) : (r.addNotice n).dets = r.dets := by
  unfold Recording.addNotice; split <;> rfl
theorem addNotice_active (r : Recording) (n : Notice) : (r.addNotice n).active = r.active := by
  unfold Recording.addNotice; split <;> rfl
theorem noticeMode_dets (r : Recording) (t : Nat) (m : Mode) : (r.noticeMode t m).dets = r.dets := by
  unfold Recording.noticeMode; split
  · rfl
  · exact addNotice_dets _ _
theorem noticeMode_active (r : Recording) (t : Nat) (m : Mode) : (r.noticeMode t m).active = r.active := by
  unfold Recording.noticeMode; split
  · rfl
  · exact addNotice_active _ _
theorem noticeCreated_dets (r : Recording) (k f p : Nat) : (r.noticeCreated k f p).dets = r.dets := by
  unfold Recording.noticeCreated; split
  · rfl
  · exact addNotice_dets _ _
theorem noticeCreated_active (r : Recording) (k f p : Nat) : (r.noticeCreated k f p).active = r.active := by
  unfold Recording.noticeCreated; split
  · rfl
  · exact addNotice_active _ _

/-- A change of mode, once: the mode is the one named, the table and the lockout set stand, and the contactor moves only on
the entry to DARK. -/
structure Entered (s t : State) (m : Mode) : Prop where
  shifts : Shifts s t
  mode : t.fru.mode = m
  table : t.fru.table = s.fru.table
  lockout : t.fru.lockout = s.fru.lockout
  spc : m ≠ .dark → t.spc = s.spc
  start : m ≠ .dark → t.fru.startRequest = s.fru.startRequest
  same : s.fru.mode = m → t = s
  dark : s.fru.mode ≠ m → m = .dark → t.spc = s.spc.orderOpen ∧ t.fru.startRequest = false

theorem moves_takeIfAtOnce (s : State) : Moves s s.takeIfAtOnce :=
  Moves.when _ (Moves.onSc s _ (takePending_slots _) (takePending_staging _))

theorem entered (s : State) (m : Mode) : Entered s (s.enterMode m) m := by
  unfold State.enterMode
  split
  · rename_i h
    exact ⟨Shifts.refl s, h, rfl, rfl, fun _ => rfl, fun _ => rfl, fun _ => rfl, fun h' => absurd h h'⟩
  · rename_i hne
    dsimp only
    generalize h1 : s.onFru (fun f => f.setMode m) = s1
    have e1 : Shifts s s1 := h1 ▸ Shifts.onFru s _
    have f1 : s1.fru = s.fru.setMode m := by rw [← h1]; rfl
    have p1 : s1.spc = s.spc := by rw [← h1]; rfl
    generalize h2 : s1.onRu (fun r => r.noticeMode s1.uptime m) = s2
    have e2 : Shifts s s2 := e1.trans (h2 ▸ Shifts.onRu s1 _ (noticeMode_dets _ _ _) (noticeMode_active _ _ _))
    have f2 : s2.fru = s.fru.setMode m := by rw [← h2]; exact f1
    have p2 : s2.spc = s.spc := by rw [← h2]; exact p1
    generalize h3 : s2.when (decide (s.fru.mode = .run)) (fun s => s.onSc Stages.clearRun) = s3
    have m3 : Moves s2 s3 := h3 ▸ Moves.when _ (Moves.onSc s2 _ rfl rfl)
    generalize h4 : s3.gsEnter s.fru.mode m = s4
    have m4 : Moves s2 s4 := m3.trans (h4 ▸ moves_gsEnter _ _ _)
    have e4 : Shifts s s4 := e2.trans m4.shifts
    have f4 : s4.fru = s.fru.setMode m := m4.fru.trans f2
    have p4 : s4.spc = s.spc := (by rw [m4.rest] : s4.spc = s2.spc).trans p2
    generalize h5 : s4.when (decide (m = .dark)) (fun s => s.onSpc Supply.orderOpen) = s5
    have e5 : Shifts s s5 ∧ s5.fru = s.fru.setMode m ∧ s5.spc = (if m = .dark then s.spc.orderOpen else s.spc) := by
      rw [← h5]
      unfold State.when
      by_cases hm : m = .dark
      · simp only [hm, decide_true, if_true]
        refine ⟨e4.trans ⟨rfl, rfl, rfl, rfl, rfl, .inr rfl⟩, by rw [← hm]; exact f4, ?_⟩
        show s4.spc.orderOpen = _
        rw [p4]
      · simp only [hm, decide_false, if_false, Bool.false_eq_true]
        exact ⟨e4, f4, p4⟩
    obtain ⟨e5, f5, p5⟩ := e5
    generalize h6 : s5.when (decide (m = .run)) (fun s => (s.onSc Stages.takePending).startPlan) = s6
    have m6 : Moves s5 s6 := h6 ▸ Moves.when _
      ((Moves.onSc s5 _ (takePending_slots _) (takePending_staging _)).trans (moves_startPlan _))
    have m7 : Moves s5 s6.takeIfAtOnce := m6.trans (moves_takeIfAtOnce _)
    generalize s6.takeIfAtOnce = t at *
    have f7 : t.fru = s.fru.setMode m := m7.fru.trans f5
    have p7 : t.spc = _ := (by rw [m7.rest] : t.spc = s5.spc).trans p5
    refine ⟨e5.trans m7.shifts, by rw [f7]; rfl, by rw [f7]; rfl, by rw [f7]; rfl, ?_, ?_, fun h => absurd h hne, ?_⟩
    · intro hm; rw [p7, if_neg hm]
    · intro hm; rw [f7]; simp [Response.setMode, hm]
    · intro _ hm
      rw [p7, if_pos hm, f7]
      exact ⟨rfl, by simp [Response.setMode, hm]⟩

theorem moves_lockGroup (s : State) (g : Nat) : Moves s (s.lockGroup g) := by
  unfold State.lockGroup
  dsimp only
  split
  · exact (Moves.onGs s _).trans (moves_endGreen _ _ _ g)
  · exact (Moves.onGs s _).trans (Moves.onGs _ _)
  · exact (Moves.onGs s _).trans (Moves.onGs _ _)
  · exact Moves.onGs s _

theorem moves_unlockGroup (s : State) (g : Nat) : Moves s (s.unlockGroup g) := by
  unfold State.unlockGroup
  exact Moves.onGs s _

/-- The recomputation sets the lockout set from the table and moves groups; nothing else of the FRU changes. -/
theorem relock_frame (s : State) :
    Moves (s.onFru fun f => { f with lockout := s.lockoutNow }) s.relock := by
  unfold State.relock
  dsimp only
  exact (Moves.forEach _ _ (fun g s => moves_lockGroup s g) _).trans
    (Moves.forEach _ _ (fun g s => moves_unlockGroup s g) _)

end Sys2Proof.Machine
end

