-- ==== Sys2Proof/Laws/Faults.lean ====
section
/-! SUPPORT. What a raise and a clear of a state fault do, said once (R130, R135, R136). -/

set_option Elab.async false

namespace Sys2Proof.Machine

open Sys2Proof.Claims

/-! ### Clears -/

/-- A clear of a state fault. -/
theorem clear_afterClear (s : State) (src : Source) (kind : FaultKind) : AfterClear s (s.clear src kind) src kind := by
  unfold State.clear
  dsimp only
  split
  · rename_i h
    refine ⟨?_, rfl, fun _ _ => rfl⟩
    simp [State.isLive, State.entry?, h]
  · rename_i e h
    split
    · rename_i hl
      refine ⟨?_, rfl, fun _ _ => rfl⟩
      simpa [State.isLive, State.entry?, h] using hl
    · refine ⟨?_, rfl, ?_⟩
      · simp [State.isLive, State.entry?, Response.putEntry]
      · intro k hk
        exact tget?_tput_of_ne _ _ hk

/-- The FRU after a clear: its table alone, unchanged or with one entry put. -/
theorem clear_fru (s : State) (src : Source) (kind : FaultKind) :
    (s.clear src kind).fru = s.fru
      ∨ ∃ e, (s.clear src kind).fru = { s.fru with table := tput s.fru.table (faultKey src kind) e } := by
  unfold State.clear
  dsimp only
  split
  · exact .inl rfl
  · split
    · exact .inl rfl
    · exact .inr ⟨_, rfl⟩

theorem clear_mode (s : State) (src : Source) (kind : FaultKind) : (s.clear src kind).fru.mode = s.fru.mode := by
  have h := (clear_afterClear s src kind).2.1
  rw [h]

theorem clear_shifts (s : State) (src : Source) (kind : FaultKind) : Shifts s (s.clear src kind) := by
  unfold State.clear
  dsimp only
  split
  · exact Shifts.refl s
  · split
    · exact Shifts.refl s
    · exact (Shifts.onFru s _).trans (Shifts.onRu _ _ rfl rfl)

/-! ### The lockout set follows the circuits' entries -/

/-- The lockout set that a table and a definition give depends on the circuits' entries alone. -/
theorem any_tput_of_false {α : Type} (p : Nat × α → Bool) (t : Table α) (k : Nat) (v : α)
    (hv : p (k, v) = false) (hold : ∀ w, p (k, w) = false) : (tput t k v).any p = t.any p := by
  induction t with
  | nil => simp [tput, hv]
  | cons e t ih =>
    unfold tput
    split
    · simp [hv]
    · split
      · rename_i h
        have : p e = false := by
          have := hold e.2
          rw [h] at this
          exact this
        simp [hv, this]
      · simp [ih]

/-- Two states of one definition whose tables differ only at a junction key give one lockout set. -/
theorem lockoutNow_congr {s t : State} (hd : t.dt = s.dt)
    (h : ∀ c, t.circuitLocks c = s.circuitLocks c) : t.lockoutNow = s.lockoutNow := by
  unfold State.lockoutNow
  rw [hd]
  simp [h]

/-! ### Raises -/

/-- The entry a raise of a state fault leaves, and the mode it takes. -/
structure RaisedEntry (s t : State) (src : Source) (kind : FaultKind) (row : RowSel) (partner : Nat) : Prop where
  shifts : Shifts s t
  lockout : t.fru.lockout = s.fru.lockout
  others : ∀ k, k ≠ faultKey src kind → tget? t.fru.table k = tget? s.fru.table k
  stands : s.dt.live.effective kind row = .ignore ∨ s.isLive src kind = true → t = s
  rises : s.dt.live.effective kind row ≠ .ignore → s.isLive src kind = false →
    t.entry? src kind = some ⟨true, true, ((s.entry? src kind).map (·.first)).getD s.uptime, s.uptime, row,
      s.dt.live.effective kind row, partner⟩
    ∧ t.fru.mode = (s.dt.live.effective kind row).modeAfter s.fru.mode
    ∧ (t.spc.contactor ≠ s.spc.contactor → t.fru.mode = .dark)
    ∧ ∃ e, t.fru.table = tput s.fru.table (faultKey src kind) e
    ∧ ((s.fru.mode = .dark ∨ (s.dt.live.effective kind row).modeAfter s.fru.mode ≠ .dark) →
        t.spc = s.spc ∧ t.fru.startRequest = s.fru.startRequest)

theorem raiseEntry_spec (s : State) (src : Source) (kind : FaultKind) (row : RowSel) (partner : Nat) :
    RaisedEntry s (s.raiseEntry src kind row partner) src kind row partner := by
  unfold State.raiseEntry
  dsimp only
  generalize hsev : s.dt.live.effective kind row = sev
  split
  · rename_i h
    refine ⟨Shifts.refl s, rfl, fun _ _ => rfl, fun _ => rfl, ?_⟩
    intro h1; rw [hsev] at h1; exact absurd h h1
  · rename_i hi
    have fin : ∀ (e : FaultEntry) (u : State), u.fru = s.fru.putEntry (faultKey src kind) e → Shifts s u → u.spc = s.spc →
        e = ⟨true, true, ((s.entry? src kind).map (·.first)).getD s.uptime, s.uptime, row, sev, partner⟩ →
        s.isLive src kind = false →
        RaisedEntry s (u.severityAction sev) src kind row partner := by
      intro e u hu hs hp he hlive
      have hE := entered u (sev.modeAfter u.fru.mode)
      have hm : u.fru.mode = s.fru.mode := by rw [hu]; rfl
      have hq : u.fru.startRequest = s.fru.startRequest := by rw [hu]; rfl
      have ht : u.fru.table = tput s.fru.table (faultKey src kind) e := by rw [hu]; rfl
      rw [hm] at hE
      unfold State.severityAction
      rw [hm]
      generalize u.enterMode (sev.modeAfter s.fru.mode) = t at *
      refine ⟨hs.trans hE.shifts, by rw [hE.lockout, hu]; rfl, ?_, ?_, ?_⟩
      · intro k hk
        rw [hE.table, ht]
        exact tget?_tput_of_ne _ _ hk
      · intro h
        rw [hsev, hlive] at h
        rcases h with h | h
        · exact absurd h hi
        · cases h
      · intro _ _
        rw [hsev]
        refine ⟨?_, hE.mode, ?_, e, ?_, ?_⟩
        · unfold State.entry?
          rw [hE.table, ht, tget?_tput_self, he]
          rfl
        · intro hc
          by_cases hd : sev.modeAfter s.fru.mode = .dark
          · rw [hE.mode, hd]
          · exact absurd (by rw [hE.spc hd, hp]) hc
        · rw [hE.table, ht]
        · intro hd
          by_cases hd' : sev.modeAfter s.fru.mode = .dark
          · have hsd : s.fru.mode = .dark := hd.resolve_right (fun h => h hd')
            have := hE.same (by rw [hm, hd', hsd])
            rw [this]
            exact ⟨hp, hq⟩
          · exact ⟨by rw [hE.spc hd', hp], by rw [hE.start hd', hq]⟩
    split
    · rename_i hnone
      have hl : s.isLive src kind = false := by simp [State.isLive, State.entry?, hnone]
      refine fin _ _ rfl ((Shifts.onFru s _).trans (Shifts.onRu _ _ (noticeCreated_dets _ _ _ _) (noticeCreated_active _ _ _ _)))
        rfl ?_ hl
      simp [State.entry?, hnone]
    · rename_i e hsome
      split
      · rename_i hlive
        refine ⟨Shifts.refl s, rfl, fun _ _ => rfl, fun _ => rfl, ?_⟩
        intro _ h2
        simp [State.isLive, State.entry?, hsome, hlive] at h2
      · rename_i hlive
        have hl : s.isLive src kind = false := by simpa [State.isLive, State.entry?, hsome] using hlive
        refine fin _ _ rfl (Shifts.onFru s _) rfl ?_ hl
        simp [State.entry?, hsome]

/-- ALL_LOCKED's rows are fixed at FLASH. -/
theorem effective_allLocked (d : DefSet) : d.effective .allLocked .none = .flash := by
  unfold DefSet.effective rowBounds? fixedRow boundSeverity
  dsimp only
  split
  · rfl
  · rename_i cfg _
    cases cfg <;> decide

theorem flash_modeAfter_ne_dark {m : Mode} (h : Severity.flash.modeAfter m = .dark) : m = .dark := by
  cases m <;> simp [Severity.modeAfter] at h ⊢

theorem source_code_allLocked : keySourceCode (faultKey .junction .allLocked) = 0 := by decide

/-- The judgement of ALL_LOCKED and the recomputation before it: the state's own invariants of the lockout set, and what
else can change. -/
theorem recomputeLockout_spec (s : State) :
    Shifts s s.recomputeLockout ∧ s.recomputeLockout.spc = s.spc
      ∧ s.recomputeLockout.fru.startRequest = s.fru.startRequest
      ∧ s.recomputeLockout.fru.lockout = s.recomputeLockout.lockoutNow
      ∧ (∀ k, k ≠ faultKey .junction .allLocked → tget? s.recomputeLockout.fru.table k = tget? s.fru.table k)
      ∧ ModeJudged s.recomputeLockout s.fru.mode := by
  have hR := relock_frame s
  have hRs : Shifts s s.relock := (Shifts.onFru s _).trans hR.shifts
  have hRf : s.relock.fru = { s.fru with lockout := s.lockoutNow } := hR.fru
  have hRp : s.relock.spc = s.spc := by rw [hR.rest]; rfl
  have hRd : s.relock.dt = s.dt := by rw [hR.dt]; rfl
  have hloc : s.relock.fru.lockout = s.relock.lockoutNow := by
    rw [hRf]
    exact (lockoutNow_congr hRd fun c => by simp [State.circuitLocks, hRf]).symm
  unfold State.recomputeLockout State.judgeAllLocked
  generalize s.relock = r at *
  have hm : r.fru.mode = s.fru.mode := by rw [hRf]
  have ht : r.fru.table = s.fru.table := by rw [hRf]
  have hq : r.fru.startRequest = s.fru.startRequest := by rw [hRf]
  have keep : ∀ (e : FaultEntry) (t : State), t.dt = r.dt →
      t.fru.table = tput r.fru.table (faultKey .junction .allLocked) e → t.lockoutNow = r.lockoutNow := by
    intro e t hd htab
    refine lockoutNow_congr hd fun c => ?_
    unfold State.circuitLocks
    rw [htab]
    refine any_tput_of_false _ _ _ _ ?_ ?_ <;> simp [source_code_allLocked]
  split
  · have hE := raiseEntry_spec r .junction .allLocked .none 0
    generalize r.raiseEntry .junction .allLocked .none 0 = t at *
    by_cases hlive : r.isLive .junction .allLocked = true
    · rw [hE.stands (.inr hlive)]
      exact ⟨hRs, hRp, hq, hloc, fun k _ => by rw [ht], .inl hm⟩
    · have hlive : r.isLive .junction .allLocked = false := by simpa using hlive
      obtain ⟨h1, h2, h3, e, h4, h5⟩ := hE.rises (by rw [effective_allLocked]; decide) hlive
      rw [effective_allLocked] at h1 h2 h5
      have hspc : t.spc = r.spc ∧ t.fru.startRequest = r.fru.startRequest := h5 (by
        by_cases hd : Severity.flash.modeAfter r.fru.mode = .dark
        · exact .inl (flash_modeAfter_ne_dark hd)
        · exact .inr hd)
      refine ⟨hRs.trans hE.shifts, hspc.1.trans hRp, hspc.2.trans hq, ?_, ?_, ?_⟩
      · rw [hE.lockout, hloc, keep e t hE.shifts.dt h4]
      · intro k hk; rw [hE.others k hk, ht]
      · refine .inr ⟨?_, ?_⟩
        · simp [State.isLive, h1]
        · rw [h2, hm]
  · have hCs := clear_shifts r .junction .allLocked
    have hC := clear_afterClear r .junction .allLocked
    have hCf := clear_fru r .junction .allLocked
    have hCm := clear_mode r .junction .allLocked
    generalize r.clear .junction .allLocked = t at *
    have hspc : t.spc = r.spc := by rw [hC.2.1]
    refine ⟨hRs.trans hCs, hspc.trans hRp, ?_, ?_, ?_, .inl (hCm.trans hm)⟩
    · rcases hCf with h | ⟨e, h⟩ <;> rw [h, ← hq]
    · rcases hCf with h | ⟨e, h⟩
      · rw [h, hloc]
        exact (lockoutNow_congr hCs.dt fun c => by unfold State.circuitLocks; rw [h]).symm
      · rw [keep e t hCs.dt (by rw [h]), h]
        exact hloc
    · intro k hk
      rw [hC.2.2 k hk, ht]

/-! ### The end of a step after a raise -/

/-- Where a step ends after blocks have shifted, the outputs are those of the state before (R41, R84, R117). -/
theorem outputs_of_shifts {s u t : State} (h : Shifts s u) (k : OutputsFollow u t) : OutputsFollow s t := by
  obtain ⟨k1, k2, k3⟩ := k
  rw [h.ob] at k1
  rw [h.pu] at k2
  rw [h.csu] at k3
  exact ⟨k1, k2, k3⟩

/-- The end of a step keeps the fault table, the lockout set, the mode and the definition. -/
theorem finish_fru (s : State) : ∃ a, s.finish.fru = { s.fru with allRed := a } := ⟨_, (finish_settles s).2.1⟩

/-- A recomputation of the lockout set and the end of the step (R136). -/
theorem recompute_finish_relocked (s : State) : Relocked s s.recomputeLockout.finish := by
  obtain ⟨hS, hp, hq, hl, hk, hm⟩ := recomputeLockout_spec s
  have hF := finish_settles s.recomputeLockout
  generalize s.recomputeLockout = u at *
  generalize u.finish = t at *
  obtain ⟨f1, f2, f3, f4, f5, _, f7⟩ := hF
  have hd : t.dt = u.dt := by rw [f1]
  have htab : t.fru.table = u.fru.table := by rw [f2]
  refine ⟨?_, ?_, by rw [f2, hq], ?_, ?_, ?_, ?_, f4.trans hS.slots, f5.trans hS.staging, outputs_of_shifts hS f7⟩
  · have h := hS.rest
    rw [h] at f1
    rw [hp] at f1
    exact f1
  · have : t.lockoutNow = u.lockoutNow := lockoutNow_congr hd fun c => by unfold State.circuitLocks; rw [htab]
    rw [this, ← hl, f2]
  · rcases hm with h | ⟨h, h'⟩
    · exact .inl (by rw [f2, h])
    · exact .inr ⟨by unfold State.isLive State.entry? at *; rw [htab]; exact h, by rw [f2, h']⟩
  · intro k hk'
    rw [htab, hk k hk']
  · rw [f3, hS.dets]
  · rw [f3, hS.active]

/-- A recomputation of the lockout set alone (R136): no output moves before the step ends. -/
theorem recompute_relocked (s : State) : Relocked s s.recomputeLockout := by
  obtain ⟨hS, hp, hq, hl, hk, hm⟩ := recomputeLockout_spec s
  refine ⟨?_, hl, hq, hm, hk, hS.dets, hS.active, hS.slots, hS.staging, outputs_of_shifts hS ⟨rfl, rfl, rfl⟩⟩
  have h := hS.rest
  rw [hp] at h
  rw [hS.ob, hS.pu, hS.csu]
  exact h

/-- The entry of a raise, and then what a recomputation of the lockout set may change, make the whole raise of a state fault
other than ALL_LOCKED (R130, R135, R136). -/
theorem raised_of_relocked (s t : State) (src : Source) (kind : FaultKind) (row : RowSel) (partner : Nat)
    (hne : faultKey src kind ≠ faultKey .junction .allLocked) (hR : Relocked (s.raiseEntry src kind row partner) t) :
    Raised s t src kind row partner := by
  have hE := raiseEntry_spec s src kind row partner
  generalize s.raiseEntry src kind row partner = u at *
  obtain ⟨r1, r2, r3, r4, r5, r6, r7, r8, r9, r10⟩ := hR
  have hspc : t.spc = u.spc := by rw [r1]
  have hrest : t = { s with
      sc := t.sc, gs := t.gs, ru := t.ru, ob := t.ob, pu := t.pu, csu := t.csu, fru := t.fru, spc := t.spc } := by
    have h := hE.shifts.rest
    rw [h] at r1
    rw [hspc]
    exact r1
  have hopen : ∀ p : Supply, p.orderOpen = { p with
      contactor := p.orderOpen.contactor, drive := p.orderOpen.drive, provingTimer := p.orderOpen.provingTimer,
      lostSeen := p.orderOpen.lostSeen } := by
    intro p; unfold Supply.orderOpen; split <;> rfl
  refine ⟨⟨hrest, ?_, ?_, ?_, ?_, ?_, ?_, r2, ?_⟩, ?_, ?_⟩
  · rw [hspc]
    rcases hE.shifts.spc with h | h <;> rw [h]
    exact hopen _
  · rw [r6, hE.shifts.dets]
  · rw [r7, hE.shifts.active]
  · rw [r8, hE.shifts.slots]
  · rw [r9, hE.shifts.staging]
  · intro k hk1 hk2
    rw [r5 k hk2, hE.others k hk1]
  · exact outputs_of_shifts hE.shifts r10
  · intro h
    have hu := hE.stands h
    refine ⟨?_, by rw [hspc, hu], by rw [hu] at r4; exact r4⟩
    unfold State.entry?
    rw [r5 _ hne, hu]
  · intro h1 h2
    obtain ⟨e1, e2, e3, e, e4, e5⟩ := hE.rises h1 h2
    refine ⟨?_, ?_, ?_⟩
    · unfold State.entry? at *
      rw [r5 _ hne]
      exact e1
    · intro hc
      rw [hspc] at hc
      have hd := e3 hc
      rcases r4 with h | ⟨_, h⟩
      · rw [h, hd]
      · rw [h, hd]; rfl
    · rw [e2] at r4
      exact r4

/-- A raise of a state fault other than ALL_LOCKED, before the step ends. -/
theorem raise_raised (s : State) (src : Source) (kind : FaultKind) (row : RowSel) (partner : Nat)
    (hne : faultKey src kind ≠ faultKey .junction .allLocked) :
    Raised s (s.raiseRow src kind row partner) src kind row partner :=
  raised_of_relocked s _ src kind row partner hne (recompute_relocked _)

/-- A raise of a state fault other than ALL_LOCKED, and the end of the step. -/
theorem raise_finish_raised (s : State) (src : Source) (kind : FaultKind) (row : RowSel) (partner : Nat)
    (hne : faultKey src kind ≠ faultKey .junction .allLocked) :
    Raised s (s.raiseRow src kind row partner).finish src kind row partner :=
  raised_of_relocked s _ src kind row partner hne (recompute_finish_relocked _)

end Sys2Proof.Machine
end

