-- ==== Sys2Proof/Laws/Stages.lean ====
section
/-! SUPPORT. The intergreen rule in the terms of the statements, what the two reports at the end of a step can do, the advance
of the cycle clock, the settling at the entry to CLOSED and the take-over of a pending plan outside RUN. -/

namespace Sys2Proof.Machine

open Sys2Proof.Claims

/-! ### The intergreen rule (R31) -/

theorem mem_rivals {d : DefSet} {j i v : Nat} : (i, v) ∈ d.rivals j ↔ Rival d j i v := by
  simp only [DefSet.rivals, List.mem_filterMap, Rival]
  refine exists_congr fun e => and_congr_right fun _ => ?_
  split
  · rename_i h
    simp [h, eq_comm]
  · rename_i h
    split
    · rename_i h'
      simp [h, h', eq_comm]
    · rename_i h'
      simp [h, h']

theorem blocked_iff {s : State} {j : Nat} : s.blocked j = true ↔ BlockedBy s j := by
  simp only [State.blocked, List.any_eq_true, BlockedBy, Prod.exists, State.undecided, Bool.or_eq_true, beq_iff_eq, mem_rivals]

/-- What a fold that keeps the largest value answers. -/
theorem foldl_max_some {α : Type} {f : α → Option Nat} (l : List α) (m : Option Nat) (T : Nat) :
    l.foldl (fun m p => match f p with
        | none => m
        | some x => match m with
          | none => some x
          | some t => some (max t x)) m = some T
      ↔ (m = some T ∨ ∃ p ∈ l, f p = some T) ∧ (∀ t, m = some t → t ≤ T)
        ∧ ∀ p ∈ l, ∀ x, f p = some x → x ≤ T := by
  induction l generalizing m with
  | nil => simp +contextual
  | cons a l ih =>
    rw [List.foldl_cons, ih]
    cases hf : f a with
    | none => simp [hf]
    | some x =>
      cases m with
      | none =>
        simp [hf]
      | some t =>
        simp [hf]
        constructor
        · rintro ⟨h | h, h2, h3⟩
          · refine ⟨?_, by omega, by omega, h3⟩
            rcases Nat.le_total t x with h' | h'
            · right; left; omega
            · left; omega
          · exact ⟨.inr (.inr h), by omega, by omega, h3⟩
        · rintro ⟨h | h | h, h2, h2', h3⟩
          · exact ⟨.inl (by omega), by omega, h3⟩
          · exact ⟨.inl (by omega), by omega, h3⟩
          · exact ⟨.inr h, by omega, h3⟩

theorem earliest?_eq_some {s : State} {j T : Nat} : s.earliest? j = some T ↔ EarliestStart s j T := by
  have key := foldl_max_some (f := fun p : Nat × Nat => (tget? s.gs.groups p.1).map fun r => r.greenEnd + p.2)
    (s.dt.live.rivals j) none T
  have hf : s.earliest? j = (s.dt.live.rivals j).foldl (fun m p =>
      match (tget? s.gs.groups p.1).map fun r => r.greenEnd + p.2 with
      | none => m
      | some x => match m with
        | none => some x
        | some t => some (max t x)) none := by
    unfold State.earliest?
    congr 1
    funext m p
    cases tget? s.gs.groups p.1 <;> rfl
  rw [hf, key]
  simp only [EarliestStart, ← mem_rivals]
  constructor
  · rintro ⟨h | ⟨⟨i, v⟩, hm, h⟩, -, h3⟩
    · cases h
    · obtain ⟨r, hr, hT⟩ := Option.map_eq_some_iff.1 h
      exact ⟨⟨i, v, r, hm, hr, hT.symm⟩, fun i v r hm hr => h3 (i, v) hm _ (by simp [hr])⟩
  · rintro ⟨⟨i, v, r, hm, hr, rfl⟩, h3⟩
    refine ⟨.inr ⟨(i, v), hm, by simp [hr]⟩, by simp, ?_⟩
    rintro ⟨i', v'⟩ hm' x hx
    obtain ⟨r', hr', rfl⟩ := Option.map_eq_some_iff.1 hx
    exact h3 i' v' r' hm' hr'

/-! ### The end of a step -/

theorem allAtRest_iff {s : State} : s.allAtRest = true ↔ s.AllRest := by
  simp [State.allAtRest, State.AllRest]

theorem stageStands_iff {s : State} {set : GroupSet} : s.stageStands set = true ↔ s.Stands set := by
  simp only [State.stageStands, State.Stands, List.all_eq_true]
  refine forall_congr' fun e => forall_congr' fun _ => ?_
  cases inSet set e.1 <;> simp

theorem checkAtRest_judged (s : State) : AllRedJudged s s.checkAtRest := by
  constructor
  · intro h1 h2 h3
    simp [State.checkAtRest, State.when, h1, h2, allAtRest_iff.2 h3, State.onFru]
  · intro h
    have : (decide (s.fru.mode = .clearing) && s.fru.allRed.isNone && s.allAtRest) = false := by
      rcases h with h | h | h
      · simp [h]
      · simp [h]
      · simp [Bool.eq_false_iff.2 (mt allAtRest_iff.1 h)]
    simp [State.checkAtRest, State.when, this]

theorem Plan.span_of_stage {p : Plan} {k : Nat} {st : Stage} (h : p.stage? k = some st) :
    p.span k = (match p.stage? (k + 1) with | some n => n.change | none => p.cycle) - st.change := by
  have hk : k ≠ 0 := by rintro rfl; simp [Plan.stage?] at h
  have h1 : p.stages[k - 1]? = some st := by simpa [Plan.stage?, hk] using h
  have h2 : p.stage? (k + 1) = p.stages[k]? := by simp [Plan.stage?]
  rw [h2, Plan.span, h1]
  cases p.stages[k]? <;> rfl

theorem checkEstablished_reported (s : State) : Reported s s.checkEstablished := by
  constructor
  · intro set h1 h2 h3 h4
    have hs := stageStands_iff.2 h4
    have he : s.checkEstablished = { s with
        gs := { s.gs with reportOwed := false }
        sc := { s.sc with established := true, elapsed := 0, allowance := s.allowanceNow } } := by
      simp [State.checkEstablished, State.when, h1, h2, h3, hs, State.onGs, State.onSc]
    rw [he]
    refine ⟨rfl, ?_⟩
    intro slot p id k st hc hp hm hk hst
    simp only at hc hp hk ⊢
    have hplan : s.plan? = some p := by
      simp [State.plan?, hc, hp, Slot.validPlan?]
    simp only [State.allowanceNow, hplan, hk, hm, if_true]
    exact congrArg (· / 10) (Plan.span_of_stage hst)
  · intro h
    unfold State.checkEstablished
    split
    · rfl
    · rename_i set hset
      have : (decide (s.fru.mode = .run) && s.gs.reportOwed && s.stageStands set) = false := by
        rcases h with h | h | h
        · simp [h]
        · simp [h]
        · simp [Bool.eq_false_iff.2 (mt stageStands_iff.1 (h set hset))]
      simp [State.when, this]

/-! ### The cycle clock (R52) -/

theorem advanceOne_advances (c : Stages) (p : Plan) : Advances p c (c.advanceOne p) := by
  have hmem : ∀ k st, p.stage? k = some st → k ∈ (List.range p.stages.length).map (· + 1) := by
    intro k st h
    have hk : k ≠ 0 := by rintro rfl; simp [Plan.stage?] at h
    have h1 : p.stages[k - 1]? = some st := by simpa [Plan.stage?, hk] using h
    have h2 := (List.getElem?_eq_some_iff.1 h1).1
    exact List.mem_map.2 ⟨k - 1, List.mem_range.2 h2, by omega⟩
  refine ⟨rfl, ?_, ?_⟩
  · intro k st hk hc hfirst
    have : p.stageAt? ((c.clock + 1) % p.cycle) = some k := by
      have hm := hmem k st hk
      unfold Plan.stageAt?
      obtain ⟨i, hi, rfl⟩ := List.mem_map.1 hm
      rw [List.find?_map, Option.map_eq_some_iff]
      refine ⟨i, List.find?_range_eq_some.2 ⟨by simp [hk, hc], hi, fun j hj => ?_⟩, rfl⟩
      simp only [Function.comp_apply]
      split
      · rename_i x hx
        simpa using hfirst (j + 1) x (by omega) hx
      · rfl
    simp [Stages.advanceOne, this]
  · intro h
    have : p.stageAt? ((c.clock + 1) % p.cycle) = none := by
      unfold Plan.stageAt?
      rw [List.find?_eq_none]
      intro k _
      split
      · rename_i x hx
        simpa using h k x hx
      · simp
    simp [Stages.advanceOne, this]

/-! ### The entry to CLOSED and the take-over outside RUN (R63, R83) -/

theorem switched_restarts (rec : CircuitRec) (r : CircuitRun) :
    r.switched rec.lampType r.channelOn = { r with
      settle := if r.channelOn = true then (if rec.lampType = .incandescent then 4 else 2) else 2
      firstOn := if r.channelOn = true then true else r.firstOn } := by
  cases h : r.channelOn <;> cases hl : rec.lampType <;> simp [CircuitRun.switched, settleTime]

theorem settleAll_restarted (s : State) :
    s.settleAll = { s with pu := s.settleAll.pu } ∧ SettlingRestarted s s.settleAll.pu := by
  refine ⟨rfl, ?_⟩
  have h : ∀ f g : Nat → CircuitRun → CircuitRun, (∀ c r, f c r = g c r) →
      ({ s.pu with circuits := tmap s.pu.circuits f } : Proving) = { s.pu with circuits := tmap s.pu.circuits g } := by
    intro f g hfg
    rw [show f = g from funext fun c => funext fun r => hfg c r]
  refine h _ _ fun c r => ?_
  cases s.circuitRec? c with
  | none => rfl
  | some rec => exact switched_restarts rec r

theorem takePending_eq (c : Stages) : c.takePending = { c with current := c.pending.or c.current, pending := none } := by
  cases c with
  | mk slots staging current pending => cases pending <;> rfl

end Sys2Proof.Machine
end

