-- ==== Sys2Proof/Laws/Store.lean ====
section
/-! SUPPORT. What an area holds after a verified write and after the load, what the load can find in one, and when a request
is handed on. -/

set_option Elab.async false

namespace Sys2Proof.Machine

@[simp] theorem Area.stored_cond (a : Area) (x : ImageContent) : (a.stored x).cond = .intact := rfl
@[simp] theorem Area.stored_content (a : Area) (x : ImageContent) : (a.stored x).content = some x := rfl
@[simp] theorem Area.stored_crc (a : Area) (x : ImageContent) : (a.stored x).crc = x.crc := rfl
@[simp] theorem Area.stored_torn (a : Area) (x : ImageContent) : (a.stored x).torn = [] := rfl
@[simp] theorem Area.stored_mark (a : Area) (x : ImageContent) : (a.stored x).mark = a.mark := rfl
@[simp] theorem Area.stored_loadedIntact (a : Area) (x : ImageContent) : (a.stored x).loadedIntact = a.loadedIntact := rfl

@[simp] theorem Area.loaded_torn (o : Option ImageContent) : (Area.loaded o).torn = [] := by cases o <;> rfl
@[simp] theorem Area.loaded_content (o : Option ImageContent) : (Area.loaded o).content = o := by cases o <;> rfl
@[simp] theorem Area.loaded_mark (o : Option ImageContent) : (Area.loaded o).mark = .none := by cases o <;> rfl
@[simp] theorem Area.loaded_loadedIntact (o : Option ImageContent) : (Area.loaded o).loadedIntact = o.isSome := by
  cases o <;> rfl

/-- The content last written whole is what passes the CRC stored with it. -/
theorem Area.whole?_eq_some {a : Area} {x : ImageContent} : a.whole? = some x ↔ a.content = some x ∧ x.crc = a.crc := by
  simp [Area.whole?, Option.filter_eq_some_iff]

/-- Everything the load can find in an area that does not fail: its whole content, or after abandoned or mismatched writes
nothing or the content of one of them. -/
theorem Area.found_cases {a : Area} {x : ImageContent} {failing : Bool} {pick : Nat} (h : a.found failing pick = some x) :
    failing = false ∧ (a.whole? = some x ∨ x ∈ a.torn) := by
  unfold Area.found at h
  split at h
  · cases h
  · refine ⟨by simpa using ‹¬failing = true›, ?_⟩
    split at h
    · exact .inl h
    · split at h
      · cases h
      · exact .inl h
      · exact .inr (List.mem_of_getElem? h)

/-- A read of one area after another's change. -/
theorem Store.updArea_other (c : Store) {image n : Nat} (f : Area → Area) (h : n ≠ image) :
    tget? (c.updArea image f).areas n = tget? c.areas n := tget?_tupd_of_ne c.areas f h

/-- The receiver is open with no reply in progress and the load complete (R177, R181). -/
theorem State.receiverOpen_iff {s : State} : s.receiverOpen = true ↔ s.li.reply = none ∧ s.loading = false := by
  simp [State.receiverOpen]

/-- A request is carried out by a module that has an address and an open receiver. -/
theorem State.handed_open {s : State} (h : s.receiverOpen = true) (ha : s.li.hasAddress = true) (f : State → State) :
    s.handed f = f s := by simp [State.handed, State.when, h, ha]

/-- Otherwise a request does nothing (R177, R179, R181). -/
theorem State.handed_closed {s : State} (h : s.receiverOpen = false ∨ s.li.hasAddress = false) (f : State → State) :
    s.handed f = s := by
  rcases h with h | h <;> simp [State.handed, State.when, h]

/-- A broadcast is carried out with the receiver open, and does nothing otherwise. -/
theorem State.handedBroadcast_eq (s : State) (f : State → State) :
    s.handedBroadcast f = if s.receiverOpen then f s else s := rfl

end Sys2Proof.Machine
end

