-- ==== Sys2Proof/WellFormed.lean ====
section
/-! DEFINITION. When a command is well formed: what the link or the field can deliver. A command whose operand a rule
refuses (an option byte of 2, a slot of 9) IS well formed: the rule answers it. -/

namespace Sys2Proof

/-- A half-cycle's measurements are within what the instruments deliver: V 0..400 (R145), one current of 0..4095 mA for
each of the 104 channels (R153), senses of existing channels (R155) and a residual of 0..4095 mA (R110). -/
def Measures.wf (m : Measures) : Bool :=
  m.volts ≤ 400 && m.currents.length == Config.channels && m.currents.all (· ≤ 4095)
    && m.sensed.all (fun c => 1 ≤ c && c ≤ Config.channels) && m.residual ≤ 4095

/-- A number of a source of a kind with `top` members is one of 1..top (section 5.2). -/
def numberWf (top n : Nat) : Bool := 1 ≤ n && n ≤ top

/-- The well-formed commands: event rows name existing sources, measurements are in range, a body fits a frame (R180), and the
areas that fail at the load are among the ten images (R171). -/
def Instr.wf : Instr → Bool
  | .powerUpLoad failing => failing.all (numberWf 10)
  | .defRecord body => body.length ≤ Config.bodyMax
  | .planRecord body => body.length ≤ Config.bodyMax
  | .zeroCrossingClose _ m => m.wf
  | .timedClose _ m => m.wf
  | .shownEpisodeClosed g => numberWf Config.groups g
  | .classConfirmed c => numberWf Config.circuits c
  | .learningComplete c => numberWf Config.circuits c
  | .unmappedCurrentRaise ch => numberWf Config.channels ch
  | .unmappedCurrentClear ch => numberWf Config.channels ch
  | .loopApplication c _ _ => numberWf Config.circuits c
  | .cableOpenRaise c => numberWf Config.circuits c
  | .cableOpenClear c => numberWf Config.circuits c
  | .leakLevelRaise c _ => numberWf Config.cables c
  | .leakLevelClear c _ => numberWf Config.cables c
  | .cableCrossRaise a b => numberWf Config.circuits a && numberWf Config.circuits b && a != b
  | .cableCrossClear a b => numberWf Config.circuits a && numberWf Config.circuits b && a != b
  | .detectorActivation d samples => numberWf Config.detectors d && !samples.isEmpty
  | .detectorRelease d samples => numberWf Config.detectors d && !samples.isEmpty
  | .detStuckOn d => numberWf Config.detectors d
  | .detStuckOff d => numberWf Config.detectors d
  | .groupStart g => numberWf Config.groups g
  | .redAmberEnd g => numberWf Config.groups g
  | .minGreenElapsed g => numberWf Config.groups g
  | .amberEnd g => numberWf Config.groups g
  | .clearanceEnd g => numberWf Config.groups g
  | .clearanceFlashHalf g => numberWf Config.groups g
  | .gapOut g => numberWf Config.groups g
  | .hardReset _ _ | .frameGapTimeout | .frameReceived | .replySent | .linkSilenceExpiry | .ident | .status
  | .groupRead _ | .circuitRead _ _ | .cableRead _ _ _ | .detectorRead _ | .faultReadEntries _ _ _ _
  | .faultReadRows _ _ _ _ | .recordRead _ _ _ | .storeStatus | .noticeFetch _ | .latchClear _ _ _ | .demand _
  | .hold _ | .release | .forceStage _ | .planSelect _ | .sync _ _ | .modeRequestDark | .modeRequestFlash
  | .modeRequestRestart | .softReset | .softResetAction | .learn _ | .learnCancel _ | .cableTestLeak _
  | .cableTestCross _ | .substitute _ _ | .defClear | .defCommit _ | .planCommit _ _ | .planErase _
  | .recordControl _ _ _ _ _ _ | .conflictRaise | .greenInFlashRaise | .frequencyDetected | .supplyBandRaise
  | .supplyBandClear | .supplyLostRaise | .supplyReturn | .contactorCloseProved | .contactorNoClose
  | .deadBusProved | .contactorOpenProved | .contactorWeld | .liveBusInOpen | .leakMeasurementStart
  | .leakMeasurementComplete | .patternTestStart | .patternTestComplete | .intervalClose | .flashHalf
  | .changePointReached | .cycleWrap | .syncCorrection | .stageMinReached | .stageMaxReached | .stageEndDecision
  | .holdExpired | .forcedStageRequest | .autoStart | .startFlashTimeout | .enterRun | .allRedExpired
  | .storeWriteEnd _ | .storeWriteTimeExpired | .byteReceived _ => true

end Sys2Proof
end

