-- ==== Sys2Proof/Tests/Slice0.lean ====
section
/-! SUPPORT. Tests: WellFormed refusing one ill-formed command for each of its checks, worked examples of the spec, one step of
commands of each family, and for each statement with hypotheses a state and operands that meet them. -/

-- One theorem after another: side by side, each waits on a thread of its own for the ones before it.
set_option Elab.async false

namespace Sys2Proof.Tests

open Sys2Proof.Machine Sys2Proof.Claims

/-! ### A small junction: a VEHICLE group 1 and a PEDESTRIAN group 2 in conflict, five circuits on cable 1, detector 1 -/

def junctionRec : JunctionRec := ⟨230, true, 0xFFFF, 0xFF, 0xFF, 0xFF, 0xFF, 0xFF, 0xFFFF, 100, 1⟩
def vehicleRec : GroupRec := ⟨.vehicle, 70, 30, 20, 0, 30, true⟩
def pedestrianRec : GroupRec := ⟨.pedestrian, 50, 0, 0, 60, 0, false⟩
def circuitRec (g : Nat) (role : Role) (ch : Nat) : CircuitRec := ⟨g, role, ch, 1, .incandescent, 2, 300, 0xFF, true, true⟩
def detectorRec : DetectorRec := ⟨.vehicle, 30, 1#32, 1#32, 10, 1, .presenceLonger, 5⟩

def demoDef : DefSet where
  junction := some junctionRec
  groups := [(1, vehicleRec), (2, pedestrianRec)]
  circuits := [(1, circuitRec 1 .red 1), (2, circuitRec 1 .amber 2), (3, circuitRec 1 .green 3),
    (4, circuitRec 2 .red 4), (5, circuitRec 2 .green 5)]
  cables := [(1, ⟨0xFF, 0xFFFF⟩)]
  detectors := [(1, detectorRec)]
  conflicts := [(258, ⟨60, 80⟩)]
  severities := []

def fixedPlan : Plan := ⟨.fixed, 600, [⟨1#32, false, 0, 0⟩, ⟨2#32, false, 0, 300⟩]⟩
def actuatedPlan : Plan := ⟨.actuated, 0, [⟨1#32, false, 200, 0⟩, ⟨2#32, true, 300, 0⟩]⟩

/-- A group's record in an aspect, at some time in it. -/
def groupIn (a : Aspect) (t : Nat) (target : Bool) : GroupRun := ⟨a, t, none, 0, false, false, target, 0⟩

/-- The small junction in a mode with a contactor state, both groups at rest, the fixed plan in slot 1 and the actuated
plan in slot 2. -/
def demo (m : Mode) (k : Contactor) : State :=
  { State.reset with
    loading := false
    dt := ⟨demoDef, true, 0x12345678#32, .empty⟩
    sc := { stagesAtReset with
      slots := [(1, .valid fixedPlan 1), (2, .valid actuatedPlan 2), (3, .empty), (4, .empty), (5, .empty), (6, .empty),
        (7, .empty), (8, .invalid fixedPlan 3)]
      ext := [(1, ⟨0, false⟩), (2, ⟨0, false⟩)] }
    gs := ⟨[(1, groupIn .red 0 false), (2, groupIn .red 0 false)], none, false, 0, true⟩
    du := ⟨[(1, DetRun.fresh false)], 0⟩
    pu := ⟨tmap demoDef.circuits fun _ r => CircuitRun.fresh r false r.nominal none 0 false, []⟩
    csu := { cableUnitAtReset with
      dark := tmap demoDef.circuits fun _ _ => Dark.fresh
      loops := tmap demoDef.circuits fun _ _ => LoopRun.fresh
      leaks := [(1, LeakRun.fresh 0)] }
    cm := ⟨[(1, ShownRun.fresh), (2, ShownRun.fresh)], [(258, 0)]⟩
    fru := ⟨[], [], m, false, false, 0, none⟩
    spc := { supplyAtReset with contactor := k, drive := k.driven } }

/-- The small junction in RUN with a plan of a slot current, stage 1 in force and established. -/
def running (slot : Nat) : State :=
  { demo .run .closed with
    sc := { (demo .run .closed).sc with current := some slot, stage := some 1, established := true, elapsed := 100 }
    gs := ⟨[(1, groupIn .green 100 true), (2, groupIn .red 100 false)], some 1#32, false, 0, true⟩ }

/-- The state after a command. -/
def after (c : Instr) (s : State) : State := match exec c s with | .next t => t | .fault _ => s | .refused _ => s

/-! ### Worked examples -/

/-- The check values of the two CRCs over the nine digits 1 to 9 (section 5.4, R180: the parameters given there). -/
theorem test_crc_checks :
    crc32 [0x31, 0x32, 0x33, 0x34, 0x35, 0x36, 0x37, 0x38, 0x39] = 0xCBF43926#32
      ∧ crc16 [0x31, 0x32, 0x33, 0x34, 0x35, 0x36, 0x37, 0x38, 0x39] = 0x29B1#16 := by decide +kernel

/-- From the seed the first step gives output 1 and the register reads 5670 hex; the first sixteen outputs (R114). -/
theorem test_pattern_register :
    lfsrStep 0xACE1#16 = (true, 0x5670#16)
      ∧ (lfsrBits 16 0xACE1#16).1
        = [true, false, false, false, false, true, true, true, false, false, true, true, false, true, false, true] := by
  decide +kernel

/-- SYNC differences either side of half a cycle (R60): 60 ahead, 60 behind, and half a cycle counts as ahead. -/
theorem test_sync_delta : syncDelta 600 100 160 = 60 ∧ syncDelta 600 100 40 = -60 ∧ syncDelta 600 0 300 = 300 := by decide

/-- The small junction's definition passes checks 1 to 6, and fails check 5 with an intergreen one short (R13). -/
theorem test_validation :
    validate demoDef = none
      ∧ validate { demoDef with conflicts := [(258, ⟨60, 79⟩)] } = some ⟨5, 6, 1, 2⟩
      ∧ validatePlan demoDef fixedPlan = none ∧ validatePlan demoDef actuatedPlan = none := by decide +kernel

/-- Occupancy rounds half up: 3 ds of 600 is 1 %, 2 ds is 0 (R77). -/
theorem test_occupancy : occupancy 3 = 1 ∧ occupancy 2 = 0 ∧ occupancy 600 = 100 := by decide

/-! ### WellFormed refuses one ill-formed command for each of its checks -/

/-- Measurements of a quiet half-cycle at 230 V. -/
def quiet : Measures := ⟨230, List.replicate 104 0, [], 0⟩

theorem test_wf_accepts_quiet : (Instr.zeroCrossingClose 10000 quiet).wf = true := by decide +kernel
theorem test_wf_refuses_measurements :
    (Instr.zeroCrossingClose 10000 { quiet with volts := 401 }).wf = false
      ∧ (Instr.timedClose 10000 { quiet with currents := [0] }).wf = false
      ∧ (Instr.timedClose 10000 { quiet with currents := 4096 :: List.replicate 103 0 }).wf = false
      ∧ (Instr.timedClose 10000 { quiet with sensed := [105] }).wf = false
      ∧ (Instr.timedClose 10000 { quiet with residual := 4096 }).wf = false := by decide +kernel
theorem test_wf_refuses_bodies :
    (Instr.defRecord (List.replicate 241 0)).wf = false ∧ (Instr.planRecord (List.replicate 241 0)).wf = false
      ∧ (Instr.powerUpLoad [11]).wf = false := by decide +kernel
theorem test_wf_refuses_sources :
    (Instr.shownEpisodeClosed 0).wf = false ∧ (Instr.classConfirmed 97).wf = false
      ∧ (Instr.learningComplete 97).wf = false ∧ (Instr.unmappedCurrentRaise 105).wf = false
      ∧ (Instr.unmappedCurrentClear 0).wf = false ∧ (Instr.loopApplication 0 0 true).wf = false
      ∧ (Instr.cableOpenRaise 97).wf = false ∧ (Instr.cableOpenClear 97).wf = false
      ∧ (Instr.leakLevelRaise 17 .warn).wf = false ∧ (Instr.leakLevelClear 17 .fault).wf = false
      ∧ (Instr.cableCrossRaise 3 3).wf = false ∧ (Instr.cableCrossClear 0 3).wf = false
      ∧ (Instr.detectorActivation 25 [true]).wf = false ∧ (Instr.detectorRelease 1 []).wf = false
      ∧ (Instr.detStuckOn 25).wf = false ∧ (Instr.detStuckOff 0).wf = false ∧ (Instr.groupStart 33).wf = false
      ∧ (Instr.redAmberEnd 33).wf = false ∧ (Instr.minGreenElapsed 33).wf = false ∧ (Instr.amberEnd 0).wf = false
      ∧ (Instr.clearanceEnd 33).wf = false ∧ (Instr.clearanceFlashHalf 33).wf = false
      ∧ (Instr.gapOut 33).wf = false := by decide

/-! ### For each statement with hypotheses, states and operands that meet them -/

/-- What holds of every number a set names, checked over its list. -/
theorem all_named {w : Nat} {b : BitVec w} {p : Nat → Bool} (h : (setList b).all p = true) :
    ∀ n, inSet b n = true → p n = true := by
  intro n hn
  refine (List.all_eq_true.1 h) n ?_
  have h2 : 1 ≤ n ∧ b.getLsbD (n - 1) = true := by simpa [inSet] using hn
  have h3 : n - 1 < w := BitVec.lt_of_getLsbD h2.2
  refine List.mem_filter.2 ⟨List.mem_map.2 ⟨n - 1, List.mem_range.2 h3, by omega⟩, hn⟩

def flashing : State := demo .flash .closed
def dark : State := demo .dark .opened

/-- A junction that RESTART and AUTO_START take from DARK. -/
def ready : State :=
  { dark with sc := { dark.sc with current := some 1 }, fru := { dark.fru with autoAwaited := true } }

/-- A junction with a live fault of a severity. -/
def faulted (sev : Severity) : State :=
  { ready with fru := { ready.fru with table := [(faultKey .junction .conflict, ⟨true, true, 0, 0, .none, sev, 0⟩)] } }

/-- A state once its reply has been sent. -/
def replied (s : State) : State := after .replySent s

theorem witness_hears : Hears dark ∧ Hears (running 1) ∧ Hears (running 2) ∧ Hears flashing := by
  simp only [Hears, Addressed]; decide
theorem witness_closed : (after .status dark).li.reply ≠ none ∧ IsRequest .status := ⟨by decide +kernel, trivial⟩
/-- With a reply in progress a request gets nothing, and no address is no addressee but for a broadcast (R179, R181). -/
theorem test_closed :
    after .modeRequestDark (after .status (running 1)) = after .status (running 1)
      ∧ after .status { dark with li := { dark.li with addrStrap := 31 } } = { dark with li := { dark.li with addrStrap := 31 } }
      ∧ (after (.sync true 160) { running 1 with li := { dark.li with addrStrap := 0 } }).sc.delta = 160 := by decide +kernel
theorem witness_empty_queue :
    dark.pending = [] ∧ dark.subTick + 1 < 20 ∧ 20 ≤ (({ dark with subTick := 19 } : State)).subTick + 1 := by decide
/-- The state after a step. -/
def stepped (s : State) : State := match step s with | .next t => t | .fault _ => s | .refused _ => s

/-- A ds boundary with circuits 1 and 2 dark-settled at loop phase 9, circuit 2 in a pattern test, the detector in presence and
the contactor in CLOSING (R71, R105, R150). -/
def boundary : State :=
  { demo .dark .closing with
    subTick := 19
    du := ⟨[(1, { DetRun.fresh true with level := true, presence := 9, occupied := 600, gap := some 3 })], 0⟩
    csu := { cableUnitAtReset with
      dark := [(1, ⟨2, 19, 9, false⟩), (2, ⟨2, 19, 9, false⟩)]
      test := some ⟨2, [⟨3, 0, false⟩], List.replicate 64 true, 0⟩ } }

theorem witness_boundary :
    boundary.pending = [] ∧ 20 ≤ boundary.subTick + 1 ∧ DarkSettled boundary 1 ∧ boundary.running? .fixed = none
      ∧ (stepped boundary).csu.dark = [(1, ⟨2, 20, 0, true⟩), (2, ⟨2, 20, 0, false⟩)]
      ∧ (tget? (stepped boundary).du.dets 1).map (fun r => (r.presence, r.occupied, r.gap)) = some (10, 600, some 3)
      ∧ (stepped boundary).spc.provingTimer = 5 := by
  refine ⟨rfl, by decide, ⟨by decide, by decide, _, rfl, by decide⟩, by decide, by decide +kernel⟩
theorem witness_group_read :
    dark.groupRec? 1 = some vehicleRec ∧ tget? dark.gs.groups 1 = some (groupIn .red 0 false)
      ∧ (running 2).blocked 2 = true ∧ dark.blocked 1 = false ∧ dark.earliest? 1 = some 80
      ∧ ({ dark with dt := { dark.dt with live := { demoDef with conflicts := [] } } } : State).earliest? 1 = none
      ∧ dark.groupRec? 33 = none := by decide
theorem witness_detector_read :
    dark.detectorRec? 1 = some detectorRec ∧ (tget? dark.du.dets 1).isSome = true ∧ dark.detectorRec? 25 = none := by
  decide
theorem witness_circuit_read :
    dark.circuitRec? 5 = some (circuitRec 2 .green 5) ∧ (tget? dark.pu.circuits 5).isSome = true
      ∧ dark.circuitRec? 97 = none := by decide
theorem witness_cable_read :
    (dark.cableRec? 1).isSome = true ∧ (tget? dark.csu.leaks 1).isSome = true ∧ dark.cableRec? 17 = none
      ∧ dark.li.held = none ∧ (replied (after (.cableRead 1 0 0) dark)).li.held.map (·.body) = some [1, 0]
      ∧ (replied (after (.cableRead 1 0 0) dark)).li.reply = none := by decide +kernel
theorem witness_fault_read :
    sourceNumberOk 5 104 = true ∧ sourceNumberOk 5 105 = false ∧ sourceTop? 6 = none ∧ kindOfCode? 0 = none
      ∧ rowOfCode? 0xEE = none ∧ (replied (after (.faultReadEntries 0xFF 0 0 0) dark)).li.held.map (·.body) = some [0, 0xFF, 0, 0]
      ∧ (faulted .flash).isLive .junction .conflict = true
      ∧ demoDef.effective .leakFault .none = .alarm
      ∧ BoundedTo .leakFault ⟨.alarm, .alarm, .flash⟩ .lockout .flash
      ∧ (∃ k r b, kindOfCode? FaultKind.lampOut.code = some k ∧ rowOfCode? RowSel.vRed.code = some r
          ∧ rowBounds? k r = some b) := by
  refine ⟨by decide, by decide, by decide, by decide, by decide, by decide +kernel, by decide, by decide,
    ⟨.flash, by simp [OnCircuit, rank]⟩, .lampOut, .vRed, _, by decide,
    by decide, rfl⟩
theorem witness_record_read :
    thas dark.dt.live.groups 1 = true ∧ (tget? dark.ru.groups 1).isSome = true
      ∧ thas dark.dt.live.detectors 1 = true ∧ (tget? dark.ru.dets 1).isSome = true := by decide +kernel
theorem witness_shaped : dark.Shaped := by unfold State.Shaped; decide +kernel
/-- A batch of a cleared and repeated LAMP_OUT of circuit 3, its key not in the table, and a MODE notice of FLASH (R169,
section 11.6). -/
theorem witness_notices :
    let s : State := { dark with ru := { dark.ru with
      queue := [.fault (faultKey (.circuit 3) .lampOut) 258 0 true true, .mode 7 .flash], overflow := true } }
    (after (.noticeFetch 0) s).li.reply.map (·.body)
        = some [0, 2, 0, 1, 2, 3, 2, 2, 1, 0, 0, 0, 12, 0, 0, 0x1A, 7, 0, 0, 0, 5, 0]
      ∧ (after (.noticeFetch 0) s).ru.lastOverflow = true := by decide +kernel
theorem witness_latch_clear :
    sourceNumberOk 2 96 = true ∧ sourceNumberOk 2 97 = false ∧ (sourceTop? 2).isSome = true ∧ sourceTop? 6 = none
      ∧ (kindOfCode? 25).isSome = true ∧ kindOfCode? 26 = none := by decide
theorem witness_demand :
    (∀ n, inSet 3#32 n = true → thas dark.dt.live.groups n = true)
      ∧ (inSet 4#32 3 = true ∧ thas dark.dt.live.groups 3 = false) ∧ dark.isGreen 1 = false
      ∧ (running 2).isGreen 1 = true := by
  refine ⟨all_named (by decide), by decide, by decide, by decide⟩
theorem witness_hold :
    (running 2).running? .actuated = some actuatedPlan ∧ dark.running? .actuated = none := by decide
theorem witness_force_stage :
    (running 2).running? .actuated = some actuatedPlan ∧ actuatedPlan.stage? 2 = some ⟨2#32, true, 300, 0⟩
      ∧ (running 2).sc.stage = some 1 ∧ (running 2).gs.reportOwed = false
      ∧ (running 2).sc.established = true ∧ (running 2).sc.hold = 0
      ∧ demoDef.stageMin ⟨1#32, false, 200, 0⟩ ≤ (running 2).sc.elapsed ∧ actuatedPlan.stage? 3 = none := by decide
theorem witness_plan_select :
    tget? dark.sc.slots 1 = some (.valid fixedPlan 1) ∧ tget? dark.sc.slots 3 = some .empty
      ∧ tget? dark.sc.slots 8 = some (.invalid fixedPlan 3)
      ∧ dark.fru.mode ∈ [Mode.dark, .startFlash, .flash, .supplyWait]
      ∧ (running 1).fru.mode ∈ [Mode.startRed, .run, .clearing] := by decide
theorem witness_sync :
    (running 1).running? .fixed = some fixedPlan ∧ (599#16).toNat < fixedPlan.cycle ∧ fixedPlan.cycle ≤ (600#16).toNat
      ∧ (running 1).sc.clock < fixedPlan.cycle ∧ dark.running? .fixed = none := by decide
theorem witness_mode_requests :
    dark.fru.mode.regime = .allOff ∧ (running 1).fru.mode.regime ≠ .allOff ∧ flashing.fru.mode = .flash := by decide

/-- A write of an image in flight. -/
def flight (image : Nat) (attempt : Mark) (elapsed : Nat) : Flight := ⟨image, .references [], attempt, elapsed⟩

/-- The small junction with a write in flight. -/
def writing (f : Flight) : State := { dark with stc := { dark.stc with flight := some f } }

theorem witness_restart :
    ready.liveAtLeast .flash = false ∧ ready.writing 1 = false ∧ ready.planReady = true ∧ dark.planReady = false
      ∧ (faulted .flashNow).liveAtLeast .flash = true ∧ (writing (flight 1 .first 0)).writing 1 = true
      ∧ ready.fru.autoAwaited = true ∧ ready.spc.contactor = .opened
      ∧ (after .modeRequestRestart ready).fru.startRequest = true
      ∧ (after .modeRequestRestart ready).spc.contactor = .closing
      ∧ (after .autoStart ready).spc.contactor = .closing := by decide +kernel

/-- START_FLASH, START_RED and CLEARING at the ends of their times, with every red circuit proved. -/
def startFlashOver : State := { demo .startFlash .closed with fru := { dark.fru with mode := .startFlash, modeTimer := 100 } }
def startRedOver : State :=
  { demo .startRed .closed with
    fru := { dark.fru with mode := .startRed, modeTimer := 50 }
    sc := { dark.sc with current := some 1 }
    pu := { dark.pu with circuits := tmap dark.pu.circuits fun _ r => { r with channelOn := true, confirmed := .proven } } }
def allRedOver : State := { demo .clearing .closed with fru := { dark.fru with mode := .clearing, allRed := some 30 } }

theorem witness_passages :
    startFlashOver.dt.live.junction = some junctionRec ∧ junctionRec.startFlashTime ≤ startFlashOver.fru.modeTimer
      ∧ (demo .startFlash .closed).fru.modeTimer < junctionRec.startFlashTime
      ∧ junctionRec.startRedTime ≤ startRedOver.fru.modeTimer ∧ startRedOver.dt.valid = true
      ∧ startRedOver.redsProved = true ∧ startRedOver.planReady = true ∧ startRedOver.spc.contactor = .closed
      ∧ startRedOver.liveAtLeast .flash = false ∧ (demo .startRed .closed).redsProved = false
      ∧ allRedOver.fru.allRed = some 30 ∧ junctionRec.clearRedTime ≤ 30
      ∧ (after .startFlashTimeout startFlashOver).fru.mode = .startRed ∧ (after .enterRun startRedOver).fru.mode = .run
      ∧ (after .enterRun startRedOver).sc.stage = some 1 ∧ (after .allRedExpired allRedOver).fru.mode = .flash := by
  decide +kernel

theorem witness_reds_proved : RedsProved startRedOver ∧ ¬ RedsProved (demo .startRed .closed) := by
  refine ⟨fun e he hr => ?_, fun h => ?_⟩
  · have he : e = (1, circuitRec 1 .red 1) ∨ e = (2, circuitRec 1 .amber 2) ∨ e = (3, circuitRec 1 .green 3)
        ∨ e = (4, circuitRec 2 .red 4) ∨ e = (5, circuitRec 2 .green 5) := by
      simpa [startRedOver, demo, demoDef] using he
    rcases he with rfl | rfl | rfl | rfl | rfl
    · exact ⟨_, rfl, rfl, by decide⟩
    · cases hr
    · cases hr
    · exact ⟨_, rfl, rfl, by decide⟩
    · cases hr
  · obtain ⟨r, hr, h, _⟩ := h (1, circuitRec 1 .red 1) (by decide) rfl
    obtain rfl := Option.some.inj hr
    cases h

/-- An area with a content stored whole, its CRC-32 after it. -/
def holding (a : Area) (x : ImageContent) : Area := { a with content := some x, crc := x.crc }

/-- The small junction without its circuits. -/
def bareDef : DefSet := { demoDef with circuits := [], cables := [] }

/-- A module whose store holds a definition and the fixed plan, before its load. -/
def stored : State :=
  { State.reset with
    stc := { storeBlank with
      areas := tupd (tupd storeBlank.areas 1 (holding · (.definition bareDef 9#32))) 3 (holding · (.plan (some (fixedPlan, 1)))) } }

theorem witness_load :
    stored.loading = true ∧ stored.fru.mode = .dark ∧ stored.dt.valid = false ∧ stored.stc.flight = none
      ∧ IsRequest .ident ∧ dark.loading = false := by
  refine ⟨rfl, rfl, rfl, rfl, trivial, rfl⟩
theorem witness_load_shaped : stored.Shaped := by unfold State.Shaped; decide +kernel
theorem witness_load_whole :
    FindsWhole stored [] 1 (.definition bareDef 9#32) ∧ FindsWhole stored [] 3 (.plan (some (fixedPlan, 1)))
      ∧ FindsNothing stored [] 2 ∧ FindsNothing stored [1] 1 := by
  have blank : ∀ n, (tget? stored.stc.areas n).map (fun a => (a.torn, a.content)) = some ([], none) →
      FindsNothing stored [] n := by
    intro n h
    cases ha : tget? stored.stc.areas n with
    | none => simp [ha] at h
    | some a =>
      have hc : a.torn = [] ∧ a.content = none := by simpa [ha] using h
      exact ⟨a, ha, .inr ⟨hc.1, fun x hx => by simp [hc.2] at hx⟩⟩
  have first : (tget? stored.stc.areas 1).isSome = true := by decide
  refine ⟨⟨by simp, holding Area.blank _, rfl, rfl, rfl, rfl⟩, ⟨by simp, holding Area.blank _, rfl, rfl, rfl, rfl⟩,
    blank 2 (by decide), ?_⟩
  obtain ⟨a, ha⟩ := Option.isSome_iff_exists.1 first
  exact ⟨a, ha, .inl (by simp)⟩
theorem test_load :
    (after (.powerUpLoad []) stored).dt.identity = 9#32
      ∧ tget? (after (.powerUpLoad []) stored).sc.slots 1 = some (.valid fixedPlan fixedPlan.computeIdentity)
      ∧ (after (.powerUpLoad []) stored).sc.current = some 1
      ∧ (after (.powerUpLoad []) stored).stc.flight.map (·.image) = some 2
      ∧ (after (.powerUpLoad [1]) stored).isLive .junction .definitionInvalid = true := by decide +kernel
theorem witness_soft_reset :
    ({ dark with li := { dark.li with softReset := .owed } } : State).li.softReset = .owed
      ∧ dark.li.softReset ≠ .owed := by decide
/-- A soft reset with an INVALID live definition leaves DEFINITION_INVALID live in DARK; with a VALID one the table is empty
(R1, R143, log 40). -/
theorem test_soft_reset_invalid :
    let owed (s : State) : State := { s with li := { s.li with softReset := .owed } }
    (after .softResetAction (owed { dark with dt := ⟨.empty, false, 0, .empty⟩ })).fru.table
        = [(faultKey .junction .definitionInvalid, ⟨true, true, 0, 0, .none, .dark, 0⟩)]
      ∧ (after .softResetAction (owed dark)).fru.table = [] := by decide +kernel
theorem witness_learn :
    (∀ n, inSet 0x1F#96 n = true → thas dark.dt.live.circuits n = true)
      ∧ inSet (0x20#96) 6 = true ∧ thas dark.dt.live.circuits 6 = false := by
  refine ⟨all_named (by decide +kernel), by decide, by decide⟩
theorem witness_cable_test :
    thas dark.dt.live.cables 1 = true ∧ thas dark.dt.live.cables 16 = false
      ∧ dark.circuitRec? 1 = some (circuitRec 1 .red 1) ∧ (circuitRec 1 .red 1).crossTest = true
      ∧ dark.circuitRec? 6 = none := by decide
theorem witness_record_control :
    (∀ n, inSet 3#32 n = true → thas dark.dt.live.groups n = true)
      ∧ (∀ n, inSet 1#32 n = true → thas dark.dt.live.detectors n = true)
      ∧ inSet 4#32 3 = true ∧ thas dark.dt.live.groups 3 = false ∧ 2 < (3#8).toNat := by
  refine ⟨all_named (by decide), all_named (by decide), by decide, by decide, by decide⟩
theorem witness_substitute :
    dark.writing 1 = false ∧ dark.circuitRec? 1 = some (circuitRec 1 .red 1) ∧ (tget? dark.pu.circuits 1).isSome = true
      ∧ dark.dt.live.mapped? 104 = none ∧ (dark.dt.live.mapped? 5).isSome = true ∧ dark.circuitRec? 6 = none := by decide
theorem test_substitute :
    ((after (.substitute 1 104) dark).circuitRec? 1).map (·.channel) = some 104
      ∧ (after (.substitute 1 104) dark).stc.flight.map (·.image) = some 1 := by decide +kernel
theorem witness_def_record :
    (∃ r, parseRecord [4, 16, 0xFF, 0xFF, 0xFF] = .ok r) ∧ parseRecord [] = .error .length
      ∧ parseRecord [4, 17, 0xFF, 0xFF, 0xFF] = .error (.field 1) := by
  refine ⟨⟨.cable 16 ⟨0xFF, 0xFFFF⟩, by decide⟩, by decide, by decide⟩

theorem witness_record_checks :
    AllHold (recordChecks [4, 16, 0xFF, 0xFF, 0xFF] 4) ∧ FirstFails (recordChecks [4, 16, 30, 0xFF, 0xFF] 4) 3 := by
  simp [recordChecks, AllHold, FirstFails, Between, BetweenOr, field, fromLE]
/-- Cross-field and variant checks at their fields: loop_test with LED at 11, an equal fault and warn level at 3, an amber
time of a PEDESTRIAN group at 5, a first group not below its second at 1, V_RED of CABLE_CROSS at 2, a link silence time of
99 ds at 14 (R3, R4, R5, R7, R9, R10). -/
theorem test_record_checks :
    parseRecord [3, 1, 1, 0, 1, 1, 1, 1, 20, 0, 0xFF, 1, 0] = .error (.field 11)
      ∧ parseRecord [4, 16, 30, 0xFF, 0xFF] = .error (.field 3)
      ∧ parseRecord [2, 1, 2, 40, 0, 30, 0, 40, 0, 0, 0] = .error (.field 5)
      ∧ parseRecord [6, 5, 5, 10, 0, 10, 0] = .error (.field 1)
      ∧ parseRecord [7, 6, 1, 0] = .error (.field 2) ∧ parseRecord [7, 26, 0, 0] = .error (.field 1)
      ∧ parseRecord [1, 0, 100, 0, 0, 50, 0, 30, 30, 3, 2, 1, 5, 0, 99, 0, 8] = .error (.field 14)
      ∧ parseRecord [8] = .error (.field 0) ∧ parseRecord [4, 16] = .error .length := by decide

/-- The small junction with its definition in staging. -/
def staged : State := { dark with dt := { dark.dt with staging := demoDef } }

theorem witness_def_commit :
    validate staged.dt.staging = none ∧ validate dark.dt.staging = some ⟨1, 1, 0, 0⟩
      ∧ staged.dt.staging = demoDef ∧ staged.writing 1 = false ∧ staged.fru.mode = .dark
      ∧ dark.dt.staging.computeIdentity ≠ 1#32 := by decide +kernel

/-- The same with a live entry of detector 9, which staging does not define, a live CONFLICT and a live lamp fault, all with
their notices, and circuit 1's reference learned with other lamp data (R15, R16, R17). -/
def recommitted : State :=
  let keys := [faultKey .junction .conflict, faultKey (.circuit 1) .lampPartial, faultKey (.detector 9) .detStuckOn]
  { staged with
    fru := { staged.fru with table := keys.map fun k => (k, ⟨true, true, 3, 3, if k = faultKey (.circuit 1) .lampPartial
      then .vRed else .none, .alarm, 0⟩) }
    ru := { staged.ru with queue := keys.map fun k => .fault k 3 0 false false }
    pu := { staged.pu with circuits := tupd staged.pu.circuits 1 fun r => { r with recorded := some ⟨.led, 2, 300⟩ } }
    sc := { staged.sc with current := some 8, pending := some 1 } }

theorem witness_recommitted :
    recommitted.FaultsInOrder ∧ GoesAtCommit demoDef (faultKey (.detector 9) .detStuckOn) ⟨true, true, 3, 3, .none, .alarm, 0⟩
      ∧ ¬ GoesAtCommit demoDef (faultKey .junction .conflict) ⟨true, true, 3, 3, .none, .alarm, 0⟩
      ∧ recommitted.referenceTable.length = 1 ∧ validate recommitted.dt.staging = none := by
  refine ⟨by unfold State.FaultsInOrder; decide, .inl fun h => h.2.2.2 (by decide) (by decide), ?_, by decide, by decide +kernel⟩
  rintro (h | h)
  · refine h ⟨fun a => ?_, fun a => ?_, fun a => ?_, fun a => ?_⟩ <;> exact absurd a (by decide)
  · exact absurd (h .conflict (by decide)) (by decide)
theorem test_recommitted :
    tkeys recommitted.rerateTable.fru.table = [faultKey .junction .conflict, faultKey (.circuit 1) .lampPartial]
      ∧ recommitted.rerateTable.ru.queue.length = 2
      ∧ recommitted.freshMonitor.isLive .junction .conflict = false
      ∧ tget? recommitted.revalidateSlots.sc.slots 8 = some (.valid fixedPlan 3)
      ∧ recommitted.revalidateSlots.sc.current = some 8 ∧ recommitted.revalidateSlots.sc.pending = some 1
      ∧ demoDef.losesReference recommitted.referenceTable = true := by decide +kernel

/-- Each check of R13 failed in turn: no groups; group 3 without its circuits; circuit 6 with a role its group's kind does not
allow; two circuits on a channel; a cable not defined; a group of a conflict not defined; a group of a detector's set not
defined. -/
theorem test_checks :
    validate { demoDef with groups := [] } = some ⟨2, 1, 0, 0⟩
      ∧ validate { demoDef with groups := demoDef.groups ++ [(3, pedestrianRec)] } = some ⟨2, 2, 3, 0⟩
      ∧ validate { demoDef with circuits := demoDef.circuits ++ [(6, circuitRec 2 .amber 6)] } = some ⟨2, 3, 6, 0⟩
      ∧ validate { demoDef with circuits := tput demoDef.circuits 5 (circuitRec 2 .green 1) } = some ⟨3, 3, 5, 0⟩
      ∧ validate { demoDef with cables := [] } = some ⟨4, 4, 1, 0⟩
      ∧ validate { demoDef with conflicts := [(259, ⟨60, 80⟩)] } = some ⟨5, 6, 1, 3⟩
      ∧ validate { demoDef with detectors := [(1, { detectorRec with demandSet := 4#32 })] } = some ⟨6, 5, 1, 0⟩ := by
  decide +kernel
theorem witness_check_fails : CheckFails { demoDef with cables := [] } (4, 1, 0) 4 :=
  ⟨1, by decide, by decide, ⟨by decide, Or.inl rfl⟩, fun k a b => by omega, rfl⟩

/-- The small junction with the fixed plan in plan staging. -/
def planStaged (p : Plan) : State := { dark with sc := { dark.sc with staging := some p, current := some 1 } }

theorem witness_plan_commit :
    parsePlan fixedPlan.body = .ok fixedPlan ∧ parsePlan [] = .error .length
      ∧ parsePlan (2 :: fixedPlan.body.tail) = .error (.field 0)
      ∧ (planStaged fixedPlan).sc.current ≠ some 2 ∧ (planStaged fixedPlan).sc.pending ≠ some 2
      ∧ (planStaged fixedPlan).writing 4 = false ∧ (writing (flight 4 .first 0)).writing 4 = true
      ∧ fixedPlan.computeIdentity ≠ 1#32 ∧ (planStaged fixedPlan).dt.valid = true
      ∧ validatePlan demoDef fixedPlan = none
      ∧ validatePlan demoDef { fixedPlan with stages := [⟨3#32, false, 0, 0⟩, ⟨2#32, false, 0, 300⟩] } = some (2, 1) := by
  decide +kernel
/-- A commit of a plan while the live definition is INVALID fails check 1 at stage 1 (R46). -/
theorem witness_plan_commit_invalid :
    let s : State := { planStaged fixedPlan with dt := ⟨.empty, false, 0, .empty⟩ }
    s.writing 4 = false ∧ s.dt.valid = false
      ∧ (after (.planCommit 2 fixedPlan.computeIdentity) s).li.reply.map (·.body) = some [0x16, 1, 0, 1, 0] := by
  decide +kernel
theorem witness_plan_checks : AllHold (planChecks fixedPlan.body) ∧ PlanFails DefSet.empty fixedPlan 1 1 := by
  refine ⟨?_, ⟨1#32, false, 0, 0⟩, 1, rfl, by decide, rfl⟩
  simp [planChecks, stageFieldChecks, AllHold, Between, field, fromLE, fixedPlan, Plan.body, Stage.bytes, le, byte, bit,
    PlanMode.code, List.range, List.range.loop]
/-- A stage with an undefined group, and a span one short of its stage min and intergreen of 50 + 60 ds (R46). -/
theorem test_plan_checks :
    validatePlan demoDef { fixedPlan with stages := [⟨1#32, false, 0, 0⟩, ⟨4#32, false, 0, 300⟩] } = some (1, 2)
      ∧ validatePlan demoDef { fixedPlan with stages := [⟨1#32, false, 0, 0⟩, ⟨2#32, false, 0, 491⟩] } = some (3, 2)
      ∧ validatePlan demoDef { fixedPlan with stages := [⟨1#32, false, 0, 0⟩, ⟨2#32, false, 0, 490⟩] } = none := by
  decide +kernel
theorem witness_plan_erase :
    (planStaged fixedPlan).sc.current = some 1 ∧ (after (.planErase 8) dark).sc.slots.getLast? = some (8, .empty) := by
  decide +kernel

/-! #### Frames -/

/-- A receiver in a phase with some bytes taken. -/
def receiving (p : RxPhase) (l : List Byte) : State := { dark with li := { dark.li with rxPhase := p, rxBytes := l } }

/-- A whole frame received: STATUS to address 1. -/
def statusFrame : State := receiving .check ([1, 0, 2] ++ crcPair [1, 0, 2])

theorem witness_receiver :
    dark.li.reply = none ∧ dark.loading = false ∧ dark.li.rxPhase = .hunt ∧ (receiving .header []).li.rxPhase = .header
      ∧ (receiving .body [1, 2, 3, 4]).li.rxBytes = [1, 2, 3, 4]
      ∧ (receiving .check [1, 0, 2]).li.rxBytes.length < 5 + 0 ∧ (after .status dark).li.reply ≠ none := by
  decide +kernel
theorem witness_frame :
    statusFrame.li.rxBytes = 1 :: 0 :: 2 :: ([] ++ crcPair [1, 0, 2]) ∧ (crcPair [1, 0, 2]).length = 2
      ∧ (1#8).toNat = statusFrame.li.addrStrap.toNat ∧ tget? catalogue 0x0A = none
      ∧ tget? catalogue 0x21 = some (.fixed 2) := by refine ⟨by decide +kernel, by decide +kernel, by decide, by decide, rfl⟩
theorem test_status_frame : (after .frameReceived statusFrame).li.reply = (after .status dark).li.reply := by
  decide +kernel
theorem witness_silence :
    ({ dark with li := { dark.li with silence := .running } } : State).li.remaining = 0
      ∧ dark.dt.live.effective .linkSilent .none ≠ .ignore
      ∧ tget? dark.sc.slots junctionRec.fallback = some (.valid fixedPlan 1) := by decide

/-- A broadcast to a module without an address is heard: a RUNNING timer starts anew, an EXPIRED one after its clear (R179,
R185). -/
theorem witness_heard :
    let heard (k : SilenceState) : State := { receiving .check ([0, 0, 2] ++ crcPair [0, 0, 2]) with
      li := { (receiving .check ([0, 0, 2] ++ crcPair [0, 0, 2])).li with addrStrap := 31, silence := k, remaining := 3 }
      fru := { dark.fru with table := [(faultKey .junction .linkSilent, ⟨true, true, 0, 0, .none, .alarm, 0⟩)] } }
    ¬ Addressed (heard .running) ∧ (after .frameReceived (heard .running)).li.remaining = 100
      ∧ (after .frameReceived (heard .running)).isLive .junction .linkSilent = true
      ∧ (after .frameReceived (heard .expired)).li.silence = .running
      ∧ (after .frameReceived (heard .expired)).isLive .junction .linkSilent = false
      ∧ (after .frameReceived (heard .off)).li.silence = .off := by
  refine ⟨by unfold Addressed; decide, by decide +kernel⟩

/-! #### Closes, proving, monitor -/

theorem witness_close :
    dark.period ≤ 2 * 5000 ∧ 2 * 4999 < dark.period ∧ dark.ob.timedRunning = false
      ∧ 5 * dark.period ≤ 4 * 12500 ∧ 4 * 12499 < 5 * dark.period
      ∧ (dark.dt.live.mapped? 5).isSome = true ∧ dark.dt.live.mapped? 6 = none ∧ dark.weldLatched = false := by
  decide +kernel
theorem witness_on_evaluation : 0 < 230 ∧ 0 < (circuitRec 1 .red 1).nominal ∧ 0 < (circuitRec 1 .red 1).lamps := by
  decide

/-- The current of channel 3, the GREEN circuit of group 1, in an otherwise quiet half-cycle. -/
def greenCurrent : Measures := { quiet with currents := [0, 0, 600] ++ List.replicate 101 0 }

theorem witness_closes_with :
    ClosesWith flashing (.zeroCrossingClose 10000 quiet) quiet ∧ ClosesWith flashing (.timedClose 12500 quiet) quiet := by
  refine ⟨.inl ⟨10000, rfl, by decide⟩, .inr ⟨12500, rfl, by decide⟩⟩
theorem witness_close_shaped : flashing.Shaped := by unfold State.Shaped; decide +kernel
theorem witness_wired : Wired flashing 1 (circuitRec 1 .red 1) := by
  refine ⟨by decide, fun ch => ⟨fun h => ?_, fun h => h ▸ by decide⟩⟩
  obtain ⟨e, he, h1⟩ := Option.map_eq_some_iff.1 (show (demoDef.circuits.find? _).map Prod.fst = some 1 from h)
  have hc : ∀ e ∈ demoDef.circuits, e.1 = 1 → e.2.channel = 1 := by decide
  have h2 := List.find?_some he
  exact (beq_iff_eq.1 h2).symm.trans (hc e (List.mem_of_find?_eq_some he) h1)
theorem test_close_proving :
    (tget? (after (.zeroCrossingClose 10000 greenCurrent) (running 1)).pu.circuits 3).map (·.showing) = some true
      ∧ (tget? (after (.zeroCrossingClose 10000 greenCurrent) (running 1)).cm.groups 1).map (·.episode) = some .showing := by
  decide +kernel

/-- In RUN, group 1 dark and group 2's shown green end two closes old. -/
def tooSoon : State :=
  { running 1 with cm := ⟨[(1, ShownRun.fresh), (2, { ShownRun.fresh with ended := some 2 })], [(258, 0)]⟩ }

theorem witness_monitor_close :
    tooSoon.spc.contactor ≠ .opened ∧ (tkeys tooSoon.cm.groups).Nodup ∧ tooSoon.fru.mode = .run
      ∧ (1, 60) ∈ tooSoon.dt.live.rivals 2 ∧ (2, 80) ∈ tooSoon.dt.live.rivals 1 ∧ dark.spc.contactor = .opened
      ∧ (after (.zeroCrossingClose 10000 greenCurrent) tooSoon).fru.mode = .flash
      ∧ ((after (.zeroCrossingClose 10000 greenCurrent) tooSoon).entry? (.group 1) .intergreenShort).isSome = true := by
  decide +kernel

/-- Circuit 1 with K agreeing evaluations of a class. -/
def agreed (k : LampClass) : State :=
  { flashing with pu := { flashing.pu with circuits := tupd flashing.pu.circuits 1 fun r =>
      { r with candidate := some k, counter := 8 } } }

theorem witness_class_confirmed :
    (tget? (agreed .out).pu.circuits 1).map (·.candidate) = some (some .out) ∧ (agreed .out).dt.live.k = 8
      ∧ demoDef.effective .lampOut (demoDef.roleRow 1) ≠ .ignore
      ∧ demoDef.effective .offCurrent (demoDef.roleRow 1) ≠ .ignore := by decide +kernel
theorem test_class_confirmed :
    (after (.classConfirmed 1) (agreed .out)).isLive (.circuit 1) .lampOut = true
      ∧ (after (.classConfirmed 1) (agreed .out)).fru.mode = .flash := by decide +kernel

/-- The same with an episode counter one below the intermittent threshold. -/
def failedOften : State :=
  { agreed .out with pu := { (agreed .out).pu with
      circuits := tupd (agreed .out).pu.circuits 1 fun r => { r with episodes := 4 } } }

theorem test_class_partial_over_and_intermittent :
    (after (.classConfirmed 1) (agreed .partly)).isLive (.circuit 1) .lampPartial = true
      ∧ (after (.classConfirmed 1) (agreed .over)).isLive (.circuit 1) .lampOver = true
      ∧ junctionRec.intermittentThreshold = 5 ∧ demoDef.effective .intermittent .none ≠ .ignore
      ∧ ((after (.classConfirmed 1) failedOften).entry? (.circuit 1) .intermittent).isSome = true := by decide +kernel

/-- Circuit 1 with 32 values learned. -/
def learned (sum : Nat) : State :=
  { dark with pu := { dark.pu with circuits := tupd dark.pu.circuits 1 fun r =>
      { r with learning := true, learnCount := 32, learnSum := sum } } }

theorem witness_learning :
    (tget? (learned 19200).pu.circuits 1).map (·.learnCount) = some 32 ∧ (19200 + 16) / 32 = 600
      ∧ (circuitRec 1 .red 1).nominal = 600 ∧ 2 * ((3200 + 16) / 32) < (circuitRec 1 .red 1).nominal := by decide +kernel
theorem test_learning :
    (tget? (after (.learningComplete 1) (learned 19216)).pu.circuits 1).map (·.reference) = some 601
      ∧ (after (.learningComplete 1) (learned 19216)).stc.flight.map (·.image) = some 2
      ∧ ((after (.learningComplete 1) (learned 3200)).entry? (.circuit 1) .learnRejected).isSome = true := by
  decide +kernel

/-- A pair confirmed, a green shown twice in a flash mode, an episode's gap at the bridge. -/
def confirmedPair : State := { flashing with cm := { flashing.cm with pairs := [(258, 2)] } }
def greenShown : State := { flashing with cm := { flashing.cm with groups := [(1, { ShownRun.fresh with flashCount := 2 })] } }
def gapped : State :=
  { flashing with cm := { flashing.cm with groups := [(1, { ShownRun.fresh with episode := .gap, gapLen := 60 })] } }

theorem witness_monitor :
    (∃ e ∈ confirmedPair.cm.pairs, e.2 = 2) ∧ (∀ e ∈ flashing.cm.pairs, e.2 ≠ 2)
      ∧ (∃ e ∈ greenShown.cm.groups, e.2.flashCount = 2) ∧ (∀ e ∈ flashing.cm.groups, e.2.flashCount ≠ 2)
      ∧ (tget? gapped.cm.groups 1).map (·.gapLen) = some (6 * gapped.closesPerDs)
      ∧ confirmedPair.isLive .junction .conflict = false ∧ greenShown.isLive .junction .greenInFlash = false := by
  decide +kernel
theorem test_monitor :
    (after .greenInFlashRaise greenShown).fru.mode = .dark
      ∧ (after .greenInFlashRaise greenShown).spc.contactor = .opening
      ∧ (after .conflictRaise { confirmedPair with fru := { confirmedPair.fru with mode := .run } }).fru.mode = .flash := by
  decide +kernel

/-- Channel 6, which no circuit names, with a watch run of 8. -/
def watched (above below : Nat) (raised : Bool) : State :=
  { dark with ob := { dark.ob with channels := tupd dark.ob.channels 6 fun c =>
      { c with above := above, below := below, raised := raised } } }

theorem witness_unmapped :
    tget? (watched 8 0 false).ob.channels 6 = some ⟨false, false, 8, 0, false⟩ ∧ dark.dt.live.mapped? 6 = none
      ∧ dark.dt.live.k = 8 ∧ tget? (watched 0 8 true).ob.channels 6 = some ⟨false, false, 0, 8, true⟩
      ∧ tget? dark.ob.channels 6 = some ⟨false, false, 0, 0, false⟩ := by decide +kernel

/-! #### Supply and contactor -/

/-- The supply of a state changed. -/
def withSupply (s : State) (f : Supply → Supply) : State := { s with spc := f s.spc }

theorem witness_frequency_and_band :
    (withSupply dark fun p => { p with freqCount := 4, freqTime := 36700 }).spc.frequency = none
      ∧ 10 * (withSupply dark fun p => { p with bandRun := 100 }).closesPerDs ≤ 100 ∧ dark.spc.bandRaised = false
      ∧ dark.spc.bandRun < 10 * dark.closesPerDs := by decide
theorem test_frequency :
    (after .frequencyDetected (withSupply dark fun p => { p with freqCount := 4, freqTime := 36699 })).spc.frequency
        = some 60
      ∧ (after .frequencyDetected (withSupply dark fun p => { p with freqCount := 4, freqTime := 36700 })).spc.frequency
        = some 50 := by decide

/-- Five LOST closes in RUN; two seconds of NORMAL ones in SUPPLY_WAIT. -/
def losing : State := withSupply (running 1) fun p => { p with lostRun := 5 }
def returning : State :=
  withSupply (demo .supplyWait .closed) fun p => { p with lossStanding := true, returnRun := 200 }

theorem witness_loss :
    losing.spc.contactor = .closed ∧ losing.spc.lostRun = 5 ∧ losing.spc.lossStanding = false
      ∧ returning.spc.lossStanding = true ∧ 20 * returning.closesPerDs ≤ returning.spc.returnRun
      ∧ (after .supplyLostRaise losing).fru.mode = .supplyWait
      ∧ (after .supplyReturn returning).fru.mode = .startFlash := by decide +kernel

/-- The contactor in CLOSING and OPENING. -/
def closing (run timer : Nat) : State := withSupply (demo .dark .closing) fun p => { p with provingRun := run, provingTimer := timer }
def opening (seen : Bool) (timer : Nat) : State :=
  withSupply (demo .dark .opening) fun p => { p with lostSeen := seen, provingTimer := timer }

theorem witness_close_proving :
    (closing 4 0).spc.contactor = .closing ∧ (closing 4 0).spc.provingRun = 4 ∧ (closing 4 0).liveAtLeast .dark = false
      ∧ (closing 3 300).spc.provingRun < 4 ∧ 300 ≤ (closing 3 300).spc.provingTimer
      ∧ (after .contactorCloseProved (closing 4 0)).fru.mode = .startFlash
      ∧ (after .contactorNoClose (closing 3 300)).spc.contactor = .opened := by decide +kernel
theorem witness_open_proving :
    (opening true 100).spc.lostSeen = true ∧ (opening false 300).spc.lostSeen = false
      ∧ (opening false 300).entry? .junction .contactorWeld = none
      ∧ (after .contactorOpenProved (opening true 100)).spc.contactor = .opened
      ∧ (after .contactorWeld (opening false 300)).weldLatched = true
      ∧ 3 * (withSupply dark fun p => { p with liveRun := 30 }).closesPerDs ≤ 30
      ∧ 5 ≤ (withSupply dark fun p => { p with deadRun := 5 }).spc.deadRun := by decide +kernel

/-- A close of each condition in each contactor state: 114 V is LOST and 115 V LOW (R145 to R148, R150, R151). -/
theorem witness_runs :
    let close (v : Nat) (s : State) : Supply := (after (.zeroCrossingClose 10000 { quiet with volts := v }) s).spc
    (close 230 (closing 3 295)).provingRun = 4 ∧ (close 230 (closing 3 300)).provingRun = 3
      ∧ (close 115 (closing 3 295)).provingRun = 0 ∧ (close 114 (opening false 295)).lostSeen = true
      ∧ (close 114 (opening false 300)).lostSeen = false ∧ (close 114 losing).lostRun = 5 ∧ (close 115 losing).lostRun = 0
      ∧ (close 230 returning).returnRun = 201 ∧ (close 115 returning).returnRun = 0
      ∧ (close 114 (withSupply dark fun p => { p with liveRun := 9, bandRun := 7 })).deadRun = 1
      ∧ (close 115 (withSupply dark fun p => { p with liveRun := 9, bandRun := 7 })).liveRun = 10
      ∧ (close 115 (withSupply dark fun p => { p with liveRun := 9, bandRun := 7 })).bandRun = 8
      ∧ (close 230 (running 1)).freqCount = 1 ∧ (close 230 (running 1)).freqTime = 10000 := by decide +kernel

/-! #### Cables -/

/-- Circuit 1 dark-settled, with a loop application due or not, and with loop runs. -/
def loopState (due : Bool) (openRun clearRun : Nat) : State :=
  { dark with csu := { dark.csu with
      dark := tupd dark.csu.dark 1 fun _ => ⟨2, 10, 0, due⟩
      loops := tupd dark.csu.loops 1 fun _ => ⟨none, openRun, clearRun⟩ } }

theorem witness_loop :
    tget? (loopState true 4 0).csu.dark 1 = some ⟨2, 10, 0, true⟩ ∧ (loopState true 4 0).darkSettled 1 = true
      ∧ (tget? (loopState true 4 0).csu.loops 1).isSome = true ∧ (loopState false 0 0).loopDue 1 = false
      ∧ tget? (loopState false 5 30).csu.loops 1 = some ⟨none, junctionRec.cableRaiseTime, junctionRec.cableClearTime⟩ := by
  decide +kernel
theorem witness_loop_on :
    ({ loopState true 0 0 with ob := { dark.ob with channels := [(1, ⟨true, true, 0, 0, false⟩)] } } : State).circuitIsOn 1
      = true := by decide

/-- The Leakage Meter free, measuring, and with a level's streaks. -/
def metering (cable : Option Nat) (dwelt residual : Nat) (list : List Nat) (cursor : Nat) : State :=
  { withSupply flashing (fun p => { p with condition := .normal }) with
    csu := { flashing.csu with
      measuring := cable, dwelt := dwelt, residual := residual, leakList := list, leakCursor := cursor } }
def levelled (r : LeakRun) : State := { dark with csu := { dark.csu with leaks := [(1, r)] } }

theorem witness_leakage :
    (metering none 0 0 [1] 1).spc.condition = .normal ∧ (metering none 0 0 [] 1).csu.leakList = []
      ∧ thas (metering none 0 0 [] 1).dt.live.cables 1 = true
      ∧ (metering (some 1) 50 1500 [] 1).csu.measuring = some 1
      ∧ ((metering (some 1) 50 1500 [] 1).cableRec? 1).isSome = true
      ∧ (tget? (after .leakMeasurementComplete (metering (some 1) 50 1500 [] 1)).csu.leaks 1).map (·.last)
        = some (some 30) := by decide +kernel
theorem witness_levels :
    (∃ r, tget? (levelled ⟨none, ⟨3, 0, false⟩, ⟨3, 0, false⟩, 255⟩).csu.leaks 1 = some r ∧ r.warn.above = 3
        ∧ r.fault.raised = false)
      ∧ ∃ r, tget? (levelled ⟨none, ⟨0, 5, true⟩, ⟨0, 5, true⟩, 0⟩).csu.leaks 1 = some r ∧ r.fault.below = 5 :=
  ⟨⟨_, rfl, rfl, rfl⟩, ⟨_, rfl, rfl⟩⟩

/-- From cursor 2 the round comes to cable 1, past 2 to 16, which are not defined. -/
theorem witness_leakage_round :
    FirstInRound (metering none 0 0 [] 2).csu.leakCursor 16
        (fun k => ((metering none 0 0 [] 2).cableRec? k).isSome = true) 1
      ∧ (after .leakMeasurementStart (metering none 0 0 [] 2)).csu.measuring = some 1
      ∧ (after .leakMeasurementStart (metering none 0 0 [] 2)).csu.leakCursor = 2 := by
  refine ⟨⟨by decide, by decide, by decide, Or.inr ⟨by decide, fun k a b => ?_, fun k a b => by omega⟩⟩, by decide +kernel⟩
  have a : 2 ≤ k := a
  simp [State.cableRec?, show (metering none 0 0 [] 2).dt.live.cables = [(1, ⟨0xFF, 0xFFFF⟩)] from rfl, tget?]
  omega
/-- With the default levels of 10 and 30 mA, 8 mA is no longer below 80 % of the warn level and 24 mA not of the fault level,
7 mA and 23 mA are, 10 mA is at the level (R111). -/
theorem test_leak_streaks :
    (LevelRun.mk 2 3 true).take 10 8 = ⟨0, 0, true⟩ ∧ (LevelRun.mk 2 3 true).take 30 24 = ⟨0, 0, true⟩
      ∧ (LevelRun.mk 2 4 true).take 10 7 = ⟨0, 5, true⟩ ∧ (LevelRun.mk 2 5 true).take 30 23 = ⟨0, 5, true⟩
      ∧ (LevelRun.mk 2 3 false).take 10 10 = ⟨3, 0, false⟩ := by decide

/-- Every circuit dark-settled, circuit 1 asked for; a test at its end; a pair about to be crossed. -/
def injecting : State :=
  { dark with csu := { dark.csu with dark := tmap dark.csu.dark fun _ _ => ⟨2, 10, 0, false⟩, crossList := [1] } }
def tested (count : Nat) : State :=
  { dark with csu := { dark.csu with test := some ⟨1, [⟨2, count, false⟩, ⟨3, 64, true⟩], [], 64⟩ } }
def paired (r : PairRun) : State := { dark with csu := { dark.csu with pairs := [(pairKey 1 3, r)] } }

theorem witness_pattern :
    injecting.csu.test = none ∧ injecting.eligibleSource 1 = true ∧ injecting.csu.crossList = [1]
      ∧ (tested 56).csu.test.map (·.index) = some 64
      ∧ tget? (after .patternTestComplete (tested 56)).csu.pairs (pairKey 1 2) = some ⟨1, 0, false⟩
      ∧ tget? (after .patternTestComplete (tested 55)).csu.pairs (pairKey 1 2) = some ⟨0, 1, false⟩ := by decide +kernel
theorem test_pattern_start :
    (after .patternTestStart injecting).csu.test.map (fun t => (t.source, t.sensors.map (·.circuit), t.draw.length))
      = some (1, [2, 3, 4, 5], 64) := by decide +kernel
/-- The front of the list is passed over while it is not eligible, and keeps its place; with no list the round goes on from
its cursor (R115). -/
theorem witness_pattern_choice :
    let passed : State := { injecting with csu := { injecting.csu with
      dark := tput injecting.csu.dark 2 ⟨1, 0, 0, false⟩, crossList := [2, 3], crossCursor := 6 } }
    passed.eligibleSource 2 = false ∧ passed.eligibleSource 3 = true
      ∧ (after .patternTestStart passed).csu.test.map (·.source) = some 3
      ∧ (after .patternTestStart passed).csu.crossList = [2]
      ∧ (let round : State := { passed with csu := { passed.csu with crossList := [2] } }
         round.csu.crossList.find? round.eligibleSource = none
          ∧ (after .patternTestStart round).csu.test.map (·.source) = some 1
          ∧ (after .patternTestStart round).csu.crossCursor = 2) := by decide +kernel
theorem witness_eligible : Eligible injecting 1 :=
  ⟨_, rfl, rfl, ⟨by decide, by decide, _, rfl, by decide⟩, 2, by decide,
    ⟨(2, circuitRec 1 .amber 2), by decide, rfl, rfl⟩, by decide, by decide, _, rfl, by decide⟩
/-- A pattern test of circuit 1 under way, its bits all 1, over circuits 2 and 3. -/
def testing : State :=
  { dark with csu := { dark.csu with
      test := some ⟨1, [⟨2, 0, false⟩, ⟨3, 0, true⟩], List.replicate 64 true, 5⟩, measuring := some 1, dwelt := 3 } }

theorem witness_pattern_close :
    testing.drivesPulse 1 = true ∧ testing.drivesPulse 2 = false
      ∧ (after (.zeroCrossingClose 10000 { quiet with sensed := [2] }) testing).csu.test.map
          (fun t => (t.index, t.sensors.map (·.count))) = some (6, [1, 0])
      ∧ (after (.zeroCrossingClose 10000 quiet) testing).csu.leakList = [1] := by decide +kernel
theorem witness_draw :
    24 ≤ ((lfsrBits 64 (lfsrBits (64 * 0) 0xACE1#16).2).1.filter id).length
      ∧ ((lfsrBits 64 (lfsrBits (64 * 0) 0xACE1#16).2).1.filter id).length ≤ 40 := by decide +kernel
theorem witness_cross :
    tget? (paired ⟨2, 0, false⟩).csu.pairs (256 * 1 + 3) = some ⟨2, 0, false⟩
      ∧ tget? (paired ⟨0, 3, true⟩).csu.pairs (256 * 1 + 3) = some ⟨0, 3, true⟩
      ∧ (after (.cableCrossRaise 1 3) (paired ⟨2, 0, false⟩)).isLive (.circuit 1) .cableCross = true := by decide +kernel

/-! #### Detectors -/

theorem witness_detector :
    detectorRec.filterSamples = 6 ∧ (DetRun.fresh false).run + 6 = detectorRec.filterSamples
      ∧ inSet detectorRec.demandSet 1 = true ∧ dark.isGreen 1 = false
      ∧ (tget? (after (.detectorActivation 1 (List.replicate 6 true)) dark).du.dets 1).map (·.level) = some true
      ∧ (tget? (after (.detectorActivation 1 (List.replicate 5 true)) dark).du.dets 1).map (·.run) = some 5 := by
  decide +kernel

/-- Detector 1 with a record. -/
def detecting (r : DetRun) : State := { dark with du := { dark.du with dets := [(1, r)] } }

/-- A gap of the threshold is a class event of GAP_LONGER at the activation, a shorter gap none; a green group's timer is then
held (R55, R76). -/
theorem witness_gap_longer :
    let gaps (gap : Nat) : State := { running 2 with
      dt := { dark.dt with live := { demoDef with detectors := [(1, { detectorRec with classMode := .gapLonger })] } }
      du := ⟨[(1, { DetRun.fresh false with gap := some gap })], 0⟩ }
    (tget? (after (.detectorActivation 1 (List.replicate 6 true)) (gaps 5)).du.dets 1).map (·.classCount) = some 1
      ∧ (tget? (after (.detectorActivation 1 (List.replicate 6 true)) (gaps 4)).du.dets 1).map (·.classCount) = some 0
      ∧ (gaps 5).isGreen 1 = true
      ∧ tget? (after (.detectorActivation 1 (List.replicate 6 true)) (gaps 5)).sc.ext 1 = some ⟨30, true⟩ := by
  decide +kernel
theorem witness_release :
    (tget? (detecting { DetRun.fresh true with level := true, presence := 5 }).du.dets 1).map (·.level) = some true
      ∧ (tget? (after (.detectorRelease 1 (List.replicate 6 false))
          (detecting { DetRun.fresh true with level := true, presence := 5 })).du.dets 1).map (·.classCount) = some 1 := by
  decide +kernel
theorem witness_stuck :
    detectorRec.maxPresenceDs = 6000 ∧ detectorRec.maxAbsenceDs = 36000
      ∧ demoDef.effective .detStuckOn .none ≠ .ignore ∧ demoDef.effective .detStuckOff .none ≠ .ignore
      ∧ (after (.detStuckOn 1) (detecting { DetRun.fresh true with level := true, presence := 6001 })).substituted 1 = true
      ∧ inSet detectorRec.extendSet 1 = true ∧ (tget? dark.sc.ext 1).isSome = true
      ∧ (tget? (after (.detStuckOff 1) (detecting { DetRun.fresh false with absence := 36000 })).sc.demand 1).map
          (·.detector) = some true := by decide +kernel
theorem witness_interval :
    ({ dark with uptime := 600 } : State).du.intervalStart + 600 ≤ 600
      ∧ (tget? ({ dark with uptime := 600 } : State).ru.dets 1).isSome = true
      ∧ dark.uptime < dark.du.intervalStart + 600 := by decide +kernel

/-! #### Groups and stages -/

/-- Group 1 with a record, in RUN. -/
def group1 (r : GroupRun) (now : Nat) : State :=
  { demo .run .closed with gs := { dark.gs with groups := [(1, r), (2, groupIn .red 0 false)] }, uptime := now }

theorem witness_group_start :
    (group1 (groupIn .red 0 true) 60).blocked 1 = false ∧ (group1 (groupIn .red 0 true) 60).earliest? 1 = some 80
      ∧ vehicleRec.ra = 20 ∧ pedestrianRec.ra = 0
      ∧ (after (.groupStart 1) (group1 (groupIn .red 0 true) 60)).aspect? 1 = some .redAmber
      ∧ (after (.groupStart 1) (group1 (groupIn .red 0 true) 59)).aspect? 1 = some .red := by decide +kernel
theorem witness_group_timers :
    (after (.redAmberEnd 1) (group1 (groupIn .redAmber 20 true) 80)).aspect? 1 = some .green
      ∧ (after (.amberEnd 1) (group1 (groupIn .amber 30 false) 80)).aspect? 1 = some .red
      ∧ (after (.minGreenElapsed 1) (group1 (groupIn .green 70 false) 80)).aspect? 1 = some .amber
      ∧ (after (.minGreenElapsed 1) (group1 (groupIn .green 69 false) 80)).aspect? 1 = some .green := by decide +kernel

/-- Group 2 in CLEARANCE. -/
def clearing2 (t : Nat) : State :=
  { demo .run .closed with gs := { dark.gs with groups := [(1, groupIn .red 0 false), (2, groupIn .clearance t false)] } }

theorem witness_clearance :
    (after (.clearanceEnd 2) (clearing2 60)).aspect? 2 = some .red
      ∧ ((tget? (after (.clearanceFlashHalf 2) (clearing2 5)).gs.groups 2).map (·.halves)) = some 1
      ∧ 5 ≤ ({ flashing with gs := { flashing.gs with flashTimer := 5 } } : State).gs.flashTimer
      ∧ (after .flashHalf { flashing with gs := { flashing.gs with flashTimer := 5 } }).gs.flashLit = false := by
  decide +kernel
theorem witness_commands :
    (running 1).circuitRec? 3 = some (circuitRec 1 .green 3) ∧ (running 1).groupRec? 1 = some vehicleRec
      ∧ (tget? (running 1).gs.groups 1).isSome = true ∧ (running 1).circuitCommand 3 = true
      ∧ flashing.circuitCommand 2 = true ∧ dark.circuitCommand 2 = false := by decide

/-- The running fixed plan with its SC changed. -/
def fixedState (f : Stages → Stages) : State :=
  { running 1 with sc := f (running 1).sc, gs := { (running 1).gs with reportOwed := false } }

theorem witness_fixed :
    (fixedState fun c => { c with arrivals := [2] }).running? .fixed = some fixedPlan
      ∧ fixedPlan.stage? 2 = some ⟨2#32, false, 0, 300⟩
      ∧ (after .changePointReached (fixedState fun c => { c with arrivals := [2] })).sc.stage = some 2
      ∧ (after .cycleWrap (fixedState fun c => { c with arrivals := [1], stage := some 2 })).sc.stage = some 1
      ∧ (fixedState fun c => { c with owed := true, allowance := 30, delta := 5 }).correctable = true
      ∧ (after .syncCorrection (fixedState fun c => { c with owed := true, allowance := 30, delta := 5, clock := 599 })).sc.clock
        = 1 := by decide +kernel
theorem witness_wrap_takes_pending :
    tget? (fixedState fun c => { c with arrivals := [1], pending := some 1, current := some 1 }).sc.slots 1
        = some (.valid fixedPlan 1)
      ∧ (after .cycleWrap (fixedState fun c => { c with arrivals := [1], pending := some 1, clock := 0 })).sc.pending
        = none := by decide +kernel

/-- The running actuated plan with its SC changed. -/
def actuatedState (f : Stages → Stages) : State :=
  { running 2 with sc := f (running 2).sc, gs := { (running 2).gs with reportOwed := false } }

theorem witness_decisions :
    (actuatedState id).running? .actuated = some actuatedPlan ∧ (actuatedState id).sc.stage = some 1
      ∧ actuatedPlan.stage? 1 = some ⟨1#32, false, 200, 0⟩ ∧ (actuatedState id).gs.reportOwed = false
      ∧ (actuatedState id).gappedOut 1 = true ∧ (actuatedState id).nextStage? actuatedPlan 1 = some 2
      ∧ (after (.gapOut 1) (actuatedState id)).sc.stage = some 2
      ∧ (after .stageMaxReached (actuatedState fun c => { c with elapsed := 200 })).sc.stage = some 2
      ∧ (after .holdExpired (actuatedState fun c => { c with elapsed := 69 })).sc.stage = some 1
      ∧ (after .forcedStageRequest (actuatedState fun c => { c with forced := some 2 })).sc.stage = some 2 := by
  decide +kernel
theorem witness_decisions_pending :
    (after .stageEndDecision (actuatedState fun c => { c with pending := some 1 })).sc.current = some 1
      ∧ (actuatedState fun c => { c with pending := some 1 }).sc.forced = none := by decide +kernel

/-- A pending plan taken at once where the ACTUATED plan may be left and is spent, and kept where it may not. -/
theorem witness_plan_select_in_run :
    (actuatedState id).running? .actuated = some actuatedPlan ∧ (actuatedState id).loading = false
      ∧ demoDef.stageMin ⟨1#32, false, 200, 0⟩ ≤ (actuatedState id).sc.elapsed ∧ (actuatedState id).sc.forced = none
      ∧ (after (.planSelect 1) (actuatedState id)).sc.current = some 1
      ∧ (after (.planSelect 1) (actuatedState fun c => { c with hold := 9 })).sc.pending = some 1 := by decide +kernel

/-- The running actuated plan with group 1's min green elapsed and a capture of its green in the EXTENDED format. -/
def captured (e : Ext) : State :=
  { actuatedState fun c => { c with ext := [(1, e), (2, ⟨0, false⟩)], elapsed := 200 } with
    gs := ⟨[(1, { groupIn .green 100 true with minElapsed := true }), (2, groupIn .red 100 false)], some 1#32, false, 0, true⟩
    ru := { dark.ru with groups := tupd dark.ru.groups 1 fun v => { v with capture := some ⟨0, some 7, true⟩ } } }

/-- A decision ends group 1 gapped out or at the stage max, and its tag counts the green; a forced stage gives no tag; the
served wait is counted (R161, R162). -/
theorem witness_served :
    let counts (s : State) : Option (BitVec 32 × BitVec 32 × BitVec 32) :=
      (tget? s.ru.groups 1).map fun v => (v.served, v.gapOuts, v.maxOuts)
    counts (after .stageEndDecision (captured ⟨0, false⟩)) = some (1, 1, 0)
      ∧ counts (after .stageEndDecision (captured ⟨5, false⟩)) = some (1, 0, 1)
      ∧ counts (after .forcedStageRequest (actuatedState fun _ => { (captured ⟨5, false⟩).sc with forced := some 2 }))
        = some (0, 0, 0)
      ∧ (captured ⟨0, false⟩).gappedOut 1 = true ∧ (captured ⟨5, false⟩).gappedOut 1 = false
      ∧ Counted 100 ⟨0, 0, 0, 0, 0, 0, 0, 0, 0, true, true, true, true, none, some ⟨30, some 7, true⟩, .gapOut⟩
          ⟨1, 70, 1, 7, 7, 7, 1, 0, 0, true, true, true, true, none, none, .none⟩ True := by
  refine ⟨by decide +kernel, by decide +kernel, by decide +kernel, by decide, by decide, ?_⟩
  simp [Counted]

/-- The intergreen rule at the boundary values of the small junction: I(1→2) is 60 and I(2→1) is 80 (R31). -/
theorem witness_intergreen :
    BlockedBy (running 2) 2 ∧ ¬ BlockedBy dark 1 ∧ EarliestStart dark 1 80 ∧ EarliestStart dark 2 60
      ∧ ∀ T, ¬ EarliestStart { dark with dt := { dark.dt with live := { demoDef with conflicts := [] } } } 1 T := by
  refine ⟨blocked_iff.1 (by decide), fun h => absurd (blocked_iff.2 h) (by decide), earliest?_eq_some.1 (by decide),
    earliest?_eq_some.1 (by decide), fun T h => ?_⟩
  obtain ⟨⟨_, _, _, ⟨_, he, _⟩, _⟩, _⟩ := h
  cases he

/-- The running fixed plan with stage 1 asked for and not yet established, group 1 at the end of its red-amber. -/
def meeting : State :=
  { running 1 with
    sc := { (running 1).sc with established := false, elapsed := 0 }
    gs := ⟨[(1, groupIn .redAmber 20 true), (2, groupIn .red 100 false)], some 1#32, true, 0, true⟩
    uptime := 80 }

/-- The stage is established as its last group enters GREEN, with a tenth of its span of 300 ds; a group of it in AMBER keeps
it waiting (R33, R51). -/
theorem witness_established :
    (after (.redAmberEnd 1) meeting).sc.established = true ∧ (after (.redAmberEnd 1) meeting).sc.allowance = 30
      ∧ (after (.redAmberEnd 1) meeting).gs.reportOwed = false
      ∧ (after (.clearanceEnd 2) { meeting with gs := { meeting.gs with
          groups := [(1, groupIn .redAmber 5 true), (2, groupIn .clearance 60 false)] } }).sc.established = false := by
  decide +kernel

/-- CLEARING with group 1 at the end of its amber and group 2 in an aspect. -/
def clearingWith (a : Aspect) : State :=
  { demo .clearing .closed with gs := { dark.gs with groups := [(1, groupIn .amber 30 false), (2, groupIn a 9 false)] } }

/-- The all-red timer starts as the last group comes to rest, at the entry to CLEARING where every group is at rest already,
and not before (R36, R140). -/
theorem witness_all_red :
    (after (.amberEnd 1) (clearingWith .red)).fru.allRed = some 0
      ∧ (after (.amberEnd 1) (clearingWith .clearance)).fru.allRed = none
      ∧ (after .modeRequestFlash (demo .startRed .closed)).fru.allRed = some 0
      ∧ (after .modeRequestFlash (running 1)).fru.allRed = none := by decide +kernel

/-- The running actuated plan with stage 2 wanted only on demand, the first stage spent. -/
def resting (f : Stages → Stages) : State :=
  actuatedState fun c => f { c with
    slots := tput c.slots 2 (.valid ⟨.actuated, 0, [⟨1#32, false, 200, 0⟩, ⟨2#32, false, 300, 0⟩]⟩ 2) }

/-- A DEMAND, and a RELEASE with demand standing, end the stage at that instant (R57, R58). -/
theorem witness_ends_at_once :
    (resting id).nextStage? ⟨.actuated, 0, [⟨1#32, false, 200, 0⟩, ⟨2#32, false, 300, 0⟩]⟩ 1 = none
      ∧ (after (.demand 2#32) (resting id)).sc.stage = some 2
      ∧ (after .release (resting fun c => { c with hold := 9, demand := [(2, ⟨true, false, false⟩)] })).sc.stage = some 2
      ∧ (after (.demand 2#32) (resting fun c => { c with hold := 9 })).sc.stage = some 1 := by decide +kernel

theorem witness_spent : GappedOut (actuatedState id) 1 ∧ IsNext (actuatedState id) actuatedPlan 1 2
    ∧ ∀ m, ¬ IsNext (resting id) ⟨.actuated, 0, [⟨1#32, false, 200, 0⟩, ⟨2#32, false, 300, 0⟩]⟩ 1 m := by
  refine ⟨⟨by decide, fun x hx => ?_⟩,
    ⟨0, by decide, rfl, ⟨_, rfl, ⟨2, by decide, by decide⟩, .inl rfl⟩, fun j _ h => by omega⟩,
    fun m ⟨i, hi, hm, ⟨st, hst, hd⟩, _⟩ => ?_⟩
  · obtain rfl : (⟨0, false⟩ : Ext) = x := Option.some.inj hx
    decide
  · obtain rfl : i = 0 := by simpa using hi
    subst hm
    obtain rfl : ⟨2#32, false, 300, 0⟩ = st := Option.some.inj hst
    rcases hd.2 with h | ⟨g, _, _, hg⟩
    · cases h
    · exact hg rfl

/-- A ds boundary of the fixed plan, with its SC changed. -/
def cycling (f : Stages → Stages) : State := { fixedState f with subTick := 19 }

/-- A ds of correction leaves the clock and is owed; one with Δ 0 comes to the change point at 300; a correction still owed is
made up first (R52, R61). -/
theorem witness_clock :
    (stepped (cycling fun c => { c with clock := 299, allowance := 30, delta := 5 })).sc.clock = 299
      ∧ (stepped (cycling fun c => { c with clock := 299, allowance := 30, delta := 5 })).sc.owed = true
      ∧ (stepped (cycling fun c => { c with clock := 299, allowance := 30 })).sc.arrivals = [2]
      ∧ (stepped (cycling fun c => { c with clock := 598, owed := true })).sc.clock = 0
      ∧ (stepped (cycling fun c => { c with clock := 598, owed := true })).sc.arrivals = [1] := by decide +kernel
/-- A double step appends the change point it comes to, and the one it passes over (R52, R61). -/
theorem witness_double_step :
    let double (clock : Nat) : Stages :=
      (after .syncCorrection (fixedState fun c => { c with owed := true, allowance := 30, delta := 5, clock := clock })).sc
    ((double 298).clock, (double 298).arrivals) = (300, [2]) ∧ ((double 299).clock, (double 299).arrivals) = (301, [2])
      ∧ ((double 599).clock, (double 599).arrivals) = (1, [1]) ∧ (double 297).arrivals = [] := by decide +kernel

/-! #### The store -/

theorem witness_store :
    (writing (flight 2 .first 400)).stc.flight = some (flight 2 .first 400)
      ∧ (tget? (after (.storeWriteEnd true) (writing (flight 2 .first 10))).stc.areas 2).map (·.cond) = some .intact
      ∧ (after (.storeWriteEnd true) (writing (flight 2 .first 400))).stc.flight.map (·.attempt) = some .retry
      ∧ (after .storeWriteTimeExpired (writing (flight 2 .first 400))).stc.flight.map (·.attempt) = some .retry
      ∧ (tget? (after (.storeWriteEnd false) (writing (flight 2 .retry 10))).stc.areas 2).map (·.cond) = some .failed := by
  decide +kernel
theorem witness_bodies : (∃ r, parseRecord [4, 16, 0xFF, 0xFF, 0xFF] = .ok r) ∧ parsePlan actuatedPlan.body = .ok actuatedPlan := by
  refine ⟨⟨.cable 16 ⟨0xFF, 0xFFFF⟩, by decide⟩, by decide +kernel⟩

/-! #### The invariants, at a running junction -/

theorem witness_contactor_held : (running 1).ContactorHeld ∧ (running 1).DriveFollows := by
  constructor <;> simp [State.ContactorHeld, State.DriveFollows, running, demo, Contactor.driven]
theorem witness_attn : dark.AttnFollows ∧ dark.QueueBounded ∧ dark.FaultsInOrder ∧ dark.LiveLatched := by
  refine ⟨rfl, by unfold State.QueueBounded; decide +kernel, rfl, ?_⟩
  intro e he
  cases he

/-- In RUN with stage 1 established only group 1 is in GREEN or RED_AMBER. -/
theorem running_undecided {i : Nat} (h : (running 1).undecided i = true) : i = 1 := by
  by_contra h1
  by_cases h2 : i = 2
  · subst h2
    exact absurd h (by decide)
  · have hn : (running 1).aspect? i = none := by
      simp [State.aspect?, running, tget?, Ne.symm h1, Ne.symm h2]
    simp [State.undecided, hn] at h
theorem witness_conflict_free : (running 1).ConflictFree := by
  intro i j _ hij _ _ h
  have := running_undecided h.1
  have := running_undecided h.2
  omega
/-- The running junction with its outputs brought to its groups. -/
def commanded : State := (running 1).refreshCommands

theorem witness_commands_follow : commanded.CommandsFollow ∧ commanded.PlansInForce ∧ commanded.RunGuarded := by
  refine ⟨by unfold State.CommandsFollow; decide +kernel, ⟨?_, ?_, ?_⟩, fun _ => by decide⟩
  · intro k hk
    have h1 : commanded.sc.current = some 1 := by decide
    obtain rfl : 1 = k := Option.some.inj (h1.symm.trans hk)
    exact ⟨fixedPlan, 1, by decide⟩
  · intro k hk
    exact absurd hk (by simp [commanded, State.refreshCommands, running, demo, stagesAtReset])
  · intro k _ hk
    exact absurd hk (by simp [commanded, State.refreshCommands, running, demo, stagesAtReset])
theorem test_commands_follow :
    (tget? commanded.ob.channels 3).map (·.command) = some true ∧ (tget? commanded.ob.channels 4).map (·.command) = some true
      ∧ (tget? commanded.ob.channels 1).map (·.command) = some false := by decide +kernel
theorem witness_lockout_follows : commanded.LockoutFollows ∧ commanded.LoadingQuiet ∧ stored.LoadingQuiet := by
  refine ⟨by unfold State.LockoutFollows; decide +kernel, fun h => absurd h (by decide), fun _ => by decide⟩
/-- The commanded junction with circuit 3, group 1's GREEN, about to be confirmed OUT, and the same once it is, its entry no
longer live. -/
def failing : State :=
  { commanded with
    pu := { commanded.pu with circuits := tupd commanded.pu.circuits 3 fun r => { r with candidate := some .out, counter := 8 } } }
def locked : State :=
  let t := after (.classConfirmed 3) failing
  { t with fru := { t.fru with table := tmap t.fru.table fun _ e => { e with live := false } } }

theorem witness_locked :
    failing.isLocked 1 = false ∧ locked.isLocked 1 = true ∧ locked.fru.mode = .run ∧ locked.aspect? 1 = some .amber
      ∧ locked.LockoutFollows ∧ (after (.latchClear 2 3 0xFF) locked).isLocked 1 = false
      ∧ (tget? (after (.latchClear 2 3 0xFF) locked).gs.groups 1).map (·.inTarget) = some true := by
  refine ⟨by decide +kernel, by decide +kernel, by decide +kernel, by decide +kernel, ?_, by decide +kernel, by decide +kernel⟩
  unfold State.LockoutFollows
  decide +kernel
theorem witness_locked_quiet : commanded.LockedQuiet ∧ commanded.AspectsFit := by
  have named : ∀ g r, tget? commanded.gs.groups g = some r →
      (g = 1 ∧ r = groupIn .green 100 true) ∨ (g = 2 ∧ r = groupIn .red 100 false) := by
    intro g r hr
    have hm := mem_of_tget? hr
    simpa [commanded, State.refreshCommands, running] using hm
  refine ⟨fun g r hr hl => ?_, fun g rec r hg hr => ?_⟩
  · rcases named g r hr with ⟨_, rfl⟩ | ⟨_, rfl⟩ <;> exact absurd hl (by decide)
  · rcases named g r hr with ⟨rfl, rfl⟩ | ⟨rfl, rfl⟩
    · obtain rfl : vehicleRec = rec := Option.some.inj hg
      exact .inr (.inr (.inl rfl))
    · obtain rfl : pedestrianRec = rec := Option.some.inj hg
      exact .inl rfl
theorem witness_all_red_follows :
    allRedOver.AllRedFollows ∧ (clearingWith .red).AllRedFollows ∧ (running 1).AllRedFollows := by
  unfold State.AllRedFollows State.AllRest
  refine ⟨by decide, by decide, by decide⟩
theorem witness_report_prompt : meeting.ReportPrompt := by
  refine ⟨fun _ _ => ⟨rfl, fun set h hs => ?_⟩, fun h => absurd h (by decide)⟩
  obtain rfl : 1#32 = set := Option.some.inj h
  rcases (hs (1, groupIn .redAmber 20 true) (by decide)).1 (by decide) with h | h <;> exact absurd h (by decide)
theorem witness_red_amber_timed : meeting.RedAmberTimed := by
  intro j rec r hj hr ha i v q hv hne hq
  have hm : (j, r) = (1, groupIn .redAmber 20 true) ∨ (j, r) = (2, groupIn .red 100 false) := by
    simpa [meeting] using mem_of_tget? hr
  have hn : (i, q) = (1, groupIn .redAmber 20 true) ∨ (i, q) = (2, groupIn .red 100 false) := by
    simpa [meeting] using mem_of_tget? hq
  rcases hm with h | h <;> cases h
  · obtain rfl : vehicleRec = rec := Option.some.inj hj
    have hv := mem_rivals.2 hv
    rcases hn with h | h <;> cases h
    · exact absurd rfl hne
    · obtain rfl : v = 80 := by
        have : (2, v) ∈ [((2 : Nat), (80 : Nat))] := hv
        simpa using this
      decide
  · cases ha
theorem witness_rest_outside_aspect : dark.RestOutsideAspect := by
  intro _ g r hr
  have hm := mem_of_tget? hr
  have : (g, r) = (1, groupIn .red 0 false) ∨ (g, r) = (2, groupIn .red 0 false) := by
    simpa [dark, demo] using hm
  rcases this with h | h <;> cases h <;> decide

/-! #### What an unreported stage, an exit from RUN, a RESTART in FLASH and a commit leave -/

/-- Stage 1 of the ACTUATED plan requested and not yet established, its group in RED_AMBER (R33, R59). -/
def unreported : State :=
  { meeting with sc := { (running 2).sc with established := false, elapsed := 0 } }

/-- A FORCE_STAGE then stands, and the SC's events change nothing; an event whose condition fails, or with a FIXED plan running,
does nothing (R55, R58, R59). -/
theorem witness_unreported :
    Hears unreported ∧ unreported.running? .actuated = some actuatedPlan ∧ unreported.gs.reportOwed = true
      ∧ unreported.stageStands 1#32 = false ∧ DecisionDue unreported ⟨1#32, false, 200, 0⟩ .holdExpired
      ∧ (after (.forceStage 2) unreported).sc = { unreported.sc with forced := some 2 }
      ∧ (after .holdExpired unreported).sc = unreported.sc
      ∧ after .forcedStageRequest (actuatedState id) = actuatedState id ∧ after .holdExpired (running 1) = running 1 := by
  refine ⟨by simp only [Hears, Addressed]; decide, ?_⟩
  simp only [DecisionDue]; decide +kernel

/-- A correction owed that a SYNC has left with Δ 0 is not made (R61, log 16). -/
theorem witness_correction_void :
    let s := fixedState fun c => { c with owed := true, allowance := 30, delta := 0, clock := 299 }
    ¬ Correctable s fixedPlan ∧ after .syncCorrection s = s := by
  refine ⟨fun h => h.2.2.1 (by decide), by decide +kernel⟩

/-- DARK out of RUN: the running state is cleared, the pending plan current, the green's recall in the demand set and its
extension timer 0; MODE_REQUEST FLASH leaves the pending plan waiting in CLEARING (R50, R54, R55, R63). -/
theorem witness_exit_from_run :
    let s := { running 1 with sc := { (running 1).sc with
      pending := some 2, clock := 44, delta := 7, ext := [(1, ⟨9, false⟩), (2, ⟨0, false⟩)] } }
    (after .modeRequestDark s).sc = { (running 1).sc with
        current := some 2, pending := none, stage := none, established := false, elapsed := 0
        demand := [(1, ⟨false, false, true⟩)], ext := [(1, ⟨0, false⟩), (2, ⟨0, false⟩)] }
      ∧ (after .modeRequestFlash s).sc.pending = some 2 ∧ (after .modeRequestFlash s).sc.stage = none := by decide +kernel

/-- FLASH with a latch of CONFLICT that is no longer live, and with it live (R142). -/
def latchedInFlash (live : Bool) : State :=
  { flashing with
    sc := { flashing.sc with current := some 1 }
    fru := { flashing.fru with table := [(faultKey .junction .conflict, ⟨live, true, 0, 0, .none, .flashNow, 0⟩)] } }

theorem witness_restart_in_flash :
    Hears (latchedInFlash false) ∧ (latchedInFlash false).LockoutFollows ∧ (latchedInFlash false).liveAtLeast .flash = false
      ∧ (latchedInFlash false).planReady = true ∧ (latchedInFlash false).writing 1 = false
      ∧ (after .modeRequestRestart (latchedInFlash false)).fru.mode = .startRed
      ∧ (after .modeRequestRestart (latchedInFlash false)).fru.table = []
      ∧ (after .modeRequestRestart (latchedInFlash true)).fru.mode = .flash := by
  refine ⟨by simp only [Hears, Addressed]; decide, by unfold State.LockoutFollows; decide +kernel, ?_⟩
  decide +kernel

/-- A commit to come with detector 1 stuck, a measurement in progress and a loop run. -/
def stuckAtCommit : State :=
  { staged with
    sc := { staged.sc with demand := [(2, ⟨false, true, false⟩)] }
    du := ⟨[(1, { DetRun.fresh true with level := true, presence := 9 })], 0⟩
    csu := { staged.csu with measuring := some 1, dwelt := 7, loops := [(1, ⟨none, 5, 0⟩)], leakList := [1, 9] }
    fru := { staged.fru with table := [(faultKey (.detector 1) .detStuckOn, ⟨true, true, 0, 0, .none, .alarm, 0⟩)] } }

/-- Group 1 takes RECALL and DETECTOR demand and its presence, the detector's record starts anew, and a measurement and a loop
run are abandoned (R16, R66, R74, R107, R108). -/
theorem witness_commit_stages :
    let t := stuckAtCommit.freshDetectors.freshGroups.freshExt.restartDemand.substitutedDemand.refreshPresence
    t.sc.demand = [(1, ⟨true, false, true⟩)] ∧ t.sc.ext = [(1, ⟨0, true⟩), (2, ⟨0, false⟩)]
      ∧ t.du.dets = [(1, DetRun.fresh true)] := by decide +kernel
theorem witness_commit_cables :
    let t := stuckAtCommit.freshCables
    t.csu.measuring = none ∧ t.csu.dwelt = 0 ∧ t.csu.leakList = [1] ∧ (tget? t.csu.loops 1).map (·.openRun) = some 0 := by
  decide +kernel

/-- A VALID fallback slot is taken where the ACTUATED stage may be left, waits for the wrap of a FIXED plan, and clears the
pending plan where it is current; with an EMPTY one the pending plan stands (R63, R64). -/
theorem witness_fallback :
    let silent (slot : Nat) (fallback : Nat) : State :=
      { running slot with
        dt := { dark.dt with live := { demoDef with junction := some { junctionRec with fallback := fallback } } }
        sc := { (running slot).sc with pending := some 7, hold := 5 }
        li := { dark.li with silence := .running, remaining := 0 } }
    (after .linkSilenceExpiry (silent 2 1)).sc.current = some 1 ∧ (after .linkSilenceExpiry (silent 1 1)).sc.pending = none
      ∧ (after .linkSilenceExpiry (silent 1 2)).sc.pending = some 2 ∧ (after .linkSilenceExpiry (silent 1 3)).sc.pending = some 7
      ∧ (after .linkSilenceExpiry (silent 1 3)).sc.hold = 0 := by decide +kernel

/-- At the entry to CLOSED an ON circuit settles 4 half-cycles with first-on pending, an OFF one 2 (R83); at the entry to OPEN a
showing green is stamped (R128). -/
theorem witness_entries :
    let s := { closing 4 0 with pu := { dark.pu with circuits := tmap dark.pu.circuits fun c r =>
      { r with channelOn := c == 1, settle := 0, firstOn := false } } }
    let t := after .contactorCloseProved s
    ((tget? t.pu.circuits 1).map fun r => (r.settle, r.firstOn)) = some (4, true)
      ∧ ((tget? t.pu.circuits 2).map fun r => (r.settle, r.firstOn)) = some (2, false)
      ∧ (tget? (after .contactorOpenProved { opening true 0 with
          cm := ⟨[(1, ⟨true, .showing, 90, 0, true, none, 1⟩)], [(258, 2)]⟩ }).cm.groups 1)
        = some ⟨false, .closed, 0, 0, false, some 0, 0⟩ := by decide +kernel

/-- A received stage max above 1200 or below the stage min of 70 is clamped, and no FIXED plan's (R46). -/
theorem witness_clamps :
    clampsPlan demoDef actuatedPlan = false
      ∧ clampsPlan demoDef { actuatedPlan with stages := [⟨1#32, false, 1201, 0⟩, ⟨2#32, true, 300, 0⟩] } = true
      ∧ clampsPlan demoDef { actuatedPlan with stages := [⟨1#32, false, 69, 0⟩, ⟨2#32, true, 300, 0⟩] } = true
      ∧ clampsPlan demoDef { fixedPlan with stages := [⟨1#32, false, 1201, 0⟩, ⟨2#32, true, 300, 0⟩] } = false := by
  decide +kernel

end Sys2Proof.Tests
end

section
/-! PROOFS. A request handed on and answered (R179, R181, R182). -/

namespace Sys2Proof.Machine

open Sys2Proof.Claims

theorem hasAddress_iff {l : Link} : l.hasAddress = true ↔ 1 ≤ l.addrStrap.toNat ∧ l.addrStrap.toNat ≤ 30 := by
  simp [Link.hasAddress]

/-- A module that hears carries a request out. -/
theorem handed_of_hears {s : State} (h : Hears s) (f : State → State) : s.handed f = f s :=
  State.handed_open (State.receiverOpen_iff.2 h.2) (hasAddress_iff.2 h.1) f

/-- The reply of a module that has an address, wherever the step ends with its straps as they were (R182). -/
theorem replied_of_replyTo {s t : State} {kind : Nat} {body : List Byte} (h : Addressed s)
    (hs : t.li.addrStrap = s.li.addrStrap) (hr : t.li.reply = s.li.replyTo kind body) : Replied t kind body := by
  have ha : s.li.hasAddress = true := hasAddress_iff.2 h
  refine ⟨fun _ => ?_, fun hn => absurd (by unfold Addressed; rw [hs]; exact h) hn⟩
  rw [hr, hs]
  simp [Link.replyTo, Link.address, ha, byte]

/-- A request answered: only the LI differs, by the reply and the held read. -/
theorem answer_only {s : State} (h : Addressed s) (kind : Nat) (body : List Byte) :
    OnlyAnswered s (s.answer kind body) kind body :=
  ⟨⟨replied_of_replyTo h rfl rfl, rfl⟩, rfl⟩

/-- A request for a part answered: only the reply differs. -/
theorem answerPart_replied {s : State} (h : Addressed s) (kind : Nat) (body : List Byte) :
    Replied (s.answerPart kind body) kind body := replied_of_replyTo h rfl rfl

end Sys2Proof.Machine
end

section
/-! PROOFS. Definition record and plan bodies: their bytes, their checks and their round trip (R2 to R11, R44, R45). -/

namespace Sys2Proof.Machine

open Sys2Proof.Claims

/-! ### Bytes and fields -/

@[simp] theorem byte_toNat (b : Byte) : byte b.toNat = b := by simp [byte]

/-- The bytes of the value of n bytes are those bytes. -/
theorem le_fromLE (l : List Byte) : le l.length (fromLE l) = l := by
  induction l with
  | nil => rfl
  | cons b l ih =>
    have hb : BitVec.ofNat 8 (b.toNat + 256 * fromLE l) = b := by
      apply BitVec.eq_of_toNat_eq
      have := b.isLt
      simp only [BitVec.toNat_ofNat]
      omega
    have hd : (b.toNat + 256 * fromLE l) / 256 = fromLE l := by have := b.isLt; omega
    simp only [List.length_cons, le, fromLE, hb, hd, ih]

theorem fromLE_lt (l : List Byte) : fromLE l < 256 ^ l.length := by
  induction l with
  | nil => simp [fromLE]
  | cons b l ih =>
    have := b.isLt
    simp only [fromLE, List.length_cons, Nat.pow_succ]
    omega

/-- A field laid out again is the bytes it was read from. -/
theorem le_field {b : List Byte} {o n : Nat} (h : o + n ≤ b.length) : le n (field b o n) = (b.drop o).take n := by
  have h' := le_fromLE ((b.drop o).take n)
  rwa [List.length_take, List.length_drop, Nat.min_eq_left (by omega)] at h'

theorem byte_field {b : List Byte} {o : Nat} (h : o < b.length) : byte (field b o 1) = b[o] := by
  have h' := le_field (b := b) (o := o) (n := 1) h
  rw [List.drop_eq_getElem_cons h] at h'
  simpa only [le, byte, List.take_succ_cons, List.take_zero, List.cons.injEq, and_true] using h'

theorem bit_of_yesNo? {b : Byte} {v : Bool} (h : yesNo? b.toNat = some v) : bit v = b := by
  unfold yesNo? at h
  split at h <;> simp at h <;> subst h <;> apply BitVec.eq_of_toNat_eq <;> simp_all [bit]

theorem code_of_groupKindOfCode? {n : Nat} {k : GroupKind} (h : groupKindOfCode? n = some k) : k.code = n := by
  unfold groupKindOfCode? at h
  split at h <;> simp at h <;> subst h <;> rfl

theorem code_of_roleOfCode? {n : Nat} {k : Role} (h : roleOfCode? n = some k) : k.code = n := by
  unfold roleOfCode? at h
  split at h <;> simp at h <;> subst h <;> rfl

theorem code_of_lampTypeOfCode? {n : Nat} {k : LampType} (h : lampTypeOfCode? n = some k) : k.code = n := by
  unfold lampTypeOfCode? at h
  split at h <;> simp at h <;> subst h <;> rfl

theorem code_of_detKindOfCode? {n : Nat} {k : DetKind} (h : detKindOfCode? n = some k) : k.code = n := by
  unfold detKindOfCode? at h
  split at h <;> simp at h <;> subst h <;> rfl

theorem code_of_classModeOfCode? {n : Nat} {k : ClassMode} (h : classModeOfCode? n = some k) : k.code = n := by
  unfold classModeOfCode? at h
  split at h <;> simp at h <;> subst h <;> rfl

theorem code_of_planModeOfCode? {n : Nat} {k : PlanMode} (h : planModeOfCode? n = some k) : k.code = n := by
  unfold planModeOfCode? at h
  split at h <;> simp at h <;> subst h <;> rfl

theorem code_of_kindOfCode? {n : Nat} {k : FaultKind} (h : kindOfCode? n = some k) : k.code = n := by
  simpa using List.find?_some h

theorem code_of_rowOfCode? {n : Nat} {r : RowSel} (h : rowOfCode? n = some r) : r.code = n := by
  simpa using List.find?_some h

theorem code_of_severityOfCode? {n : Nat} {v : Severity} (h : severityOfCode? n = some v) : v.code = n := by
  simpa using List.find?_some h

/-! ### The checks of a record -/

theorem firstFailing_eq_none {cs : List (Nat × Bool)} : firstFailing cs = none ↔ ∀ c ∈ cs, c.2 = true := by
  induction cs with
  | nil => simp [firstFailing]
  | cons c cs ih =>
    obtain ⟨off, ok⟩ := c
    cases ok <;> simp [firstFailing, ih]

theorem checked_eq_ok {cs : List (Nat × Bool)} {o : Option DefRecord} {r : DefRecord} :
    checked cs o = .ok r ↔ firstFailing cs = none ∧ o = some r := by
  unfold checked
  cases firstFailing cs <;> cases o <;> simp

/-- The checks of the model make the checks of a statement, in turn: a check is compared only where those before it hold. -/
def Agrees : List (Nat × Bool) → List (Nat × Prop) → Prop
  | [], [] => True
  | c :: cs, p :: ps => c.1 = p.1 ∧ (c.2 = true ↔ p.2) ∧ (p.2 → Agrees cs ps)
  | _, _ => False

theorem Agrees.firstFailing_none {cs : List (Nat × Bool)} {ps : List (Nat × Prop)} (h : Agrees cs ps) (ha : AllHold ps) :
    firstFailing cs = none := by
  induction cs generalizing ps with
  | nil => rfl
  | cons c cs ih =>
    cases ps with
    | nil => exact h.elim
    | cons p ps =>
      obtain ⟨-, hiff, htail⟩ := h
      simp [firstFailing, hiff.2 ha.1, ih (htail ha.1) ha.2]

theorem Agrees.firstFailing_some {cs : List (Nat × Bool)} {ps : List (Nat × Prop)} {off : Nat} (h : Agrees cs ps)
    (hf : FirstFails ps off) : firstFailing cs = some off := by
  induction cs generalizing ps with
  | nil =>
    cases ps with
    | nil => exact hf.elim
    | cons p ps => exact h.elim
  | cons c cs ih =>
    cases ps with
    | nil => exact h.elim
    | cons p ps =>
      obtain ⟨hoff, hiff, htail⟩ := h
      rcases hf with ⟨hn, rfl⟩ | ⟨hp, hf⟩
      · simp [firstFailing, mt hiff.1 hn, hoff]
      · simp [firstFailing, hiff.2 hp, ih (htail hp) hf]

/-! ### A record taken is laid out again as it was sent -/

theorem junction_body {b : List Byte} {r : DefRecord} (hl : b.length = 17) (hk : b[0]? = some 1#8)
    (h : parseJunction b = .ok r) : r.body = b := by
  obtain ⟨hc, hr⟩ := checked_eq_ok.1 h
  obtain ⟨a, ha, rfl⟩ := Option.map_eq_some_iff.1 hr
  have h1 : field b 1 1 = 0 := by simpa using firstFailing_eq_none.1 hc (1, field b 1 1 == 0) (by simp)
  match b, hl with
  | [b0, b1, b2, b3, b4, b5, b6, b7, b8, b9, b10, b11, b12, b13, b14, b15, b16], _ =>
    have hb4 := bit_of_yesNo? (b := b4) (by simpa [field, fromLE] using ha)
    have hb1 : b1 = 0#8 := by apply BitVec.eq_of_toNat_eq; simpa [field, fromLE] using h1
    simp at hk
    simp [DefRecord.body, le_field, byte_field, hb4, hb1, hk]
    exact ⟨rfl, rfl⟩

theorem group_body {b : List Byte} {r : DefRecord} (hl : b.length = 11) (hk : b[0]? = some 2#8)
    (h : parseGroup b = .ok r) : r.body = b := by
  obtain ⟨-, hr⟩ := checked_eq_ok.1 h
  obtain ⟨k, hkind, hr⟩ := Option.bind_eq_some_iff.1 hr
  obtain ⟨a, ha, rfl⟩ := Option.map_eq_some_iff.1 hr
  match b, hl with
  | [b0, b1, b2, b3, b4, b5, b6, b7, b8, b9, b10], _ =>
    have hb10 := bit_of_yesNo? (b := b10) (by simpa [field, fromLE] using ha)
    have hb2 := code_of_groupKindOfCode? hkind
    simp at hk
    simp [DefRecord.body, le_field, byte_field, hb10, hb2, hk]
    rfl

theorem circuit_body {b : List Byte} {r : DefRecord} (hl : b.length = 13) (hk : b[0]? = some 3#8)
    (h : parseCircuit b = .ok r) : r.body = b := by
  obtain ⟨-, hr⟩ := checked_eq_ok.1 h
  obtain ⟨role, hrole, hr⟩ := Option.bind_eq_some_iff.1 hr
  obtain ⟨lt, hlamp, hr⟩ := Option.bind_eq_some_iff.1 hr
  obtain ⟨lo, hloop, hr⟩ := Option.bind_eq_some_iff.1 hr
  obtain ⟨cr, hcross, rfl⟩ := Option.map_eq_some_iff.1 hr
  match b, hl with
  | [b0, b1, b2, b3, b4, b5, b6, b7, b8, b9, b10, b11, b12], _ =>
    have hb11 := bit_of_yesNo? (b := b11) (by simpa [field, fromLE] using hloop)
    have hb12 := bit_of_yesNo? (b := b12) (by simpa [field, fromLE] using hcross)
    simp at hk
    simp [DefRecord.body, le_field, byte_field, hb11, hb12, code_of_roleOfCode? hrole, code_of_lampTypeOfCode? hlamp, hk]
    rfl

theorem cable_body {b : List Byte} {r : DefRecord} (hl : b.length = 5) (hk : b[0]? = some 4#8)
    (h : parseCable b = .ok r) : r.body = b := by
  unfold parseCable at h
  obtain ⟨-, hr⟩ := checked_eq_ok.1 h
  cases hr
  match b, hl with
  | [b0, b1, b2, b3, b4], _ =>
    simp at hk
    simp [DefRecord.body, le_field, byte_field, hk]
    rfl

theorem field_lt (b : List Byte) (o n : Nat) : field b o n < 256 ^ n := by
  have hl : ((b.drop o).take n).length ≤ n := by simp
  exact lt_of_lt_of_le (fromLE_lt _) (Nat.pow_le_pow_right (by decide) hl)

/-- A set read from four bytes loses none of them. -/
theorem set_field (b : List Byte) (o : Nat) : field b o 4 % 4294967296 = field b o 4 :=
  Nat.mod_eq_of_lt (field_lt b o 4)

theorem detector_body {b : List Byte} {r : DefRecord} (hl : b.length = 17) (hk : b[0]? = some 5#8)
    (h : parseDetector b = .ok r) : r.body = b := by
  obtain ⟨-, hr⟩ := checked_eq_ok.1 h
  obtain ⟨k, hkind, hr⟩ := Option.bind_eq_some_iff.1 hr
  obtain ⟨m, hmode, rfl⟩ := Option.map_eq_some_iff.1 hr
  match b, hl with
  | [b0, b1, b2, b3, b4, b5, b6, b7, b8, b9, b10, b11, b12, b13, b14, b15, b16], _ =>
    simp at hk
    simp [DefRecord.body, le_field, byte_field, set_field, code_of_detKindOfCode? hkind, code_of_classModeOfCode? hmode, hk]
    rfl

theorem conflict_body {b : List Byte} {r : DefRecord} (hl : b.length = 7) (hk : b[0]? = some 6#8)
    (h : parseConflict b = .ok r) : r.body = b := by
  unfold parseConflict at h
  obtain ⟨-, hr⟩ := checked_eq_ok.1 h
  cases hr
  match b, hl with
  | [b0, b1, b2, b3, b4, b5, b6], _ =>
    simp at hk
    simp [DefRecord.body, le_field, byte_field, hk]
    rfl

theorem severity_body {b : List Byte} {r : DefRecord} (hl : b.length = 4) (hk : b[0]? = some 7#8)
    (h : parseSeverity b = .ok r) : r.body = b := by
  obtain ⟨-, hr⟩ := checked_eq_ok.1 h
  obtain ⟨k, hkind, hr⟩ := Option.bind_eq_some_iff.1 hr
  obtain ⟨row, hrow, hr⟩ := Option.bind_eq_some_iff.1 hr
  obtain ⟨v, hsev, rfl⟩ := Option.map_eq_some_iff.1 hr
  match b, hl with
  | [b0, b1, b2, b3], _ =>
    simp at hk
    simp [DefRecord.body, byte_field, code_of_kindOfCode? hkind, code_of_rowOfCode? hrow, code_of_severityOfCode? hsev, hk]
    rfl

/-- What a record that is taken has passed: it has a first byte, its kind's length, and its kind's fields. -/
theorem parseRecord_eq_ok {b : List Byte} {r : DefRecord} (h : parseRecord b = .ok r) :
    ∃ k rest, b = k :: rest ∧ recordLength? k.toNat = some b.length ∧ parseFields k.toNat b = .ok r := by
  unfold parseRecord at h
  split at h
  · cases h
  · rename_i k rest
    split at h
    · cases h
    · rename_i n hn
      split at h
      · rename_i hlen
        exact ⟨k, rest, rfl, by rw [hn, hlen], h⟩
      · cases h

theorem parseRecord_body {b : List Byte} {r : DefRecord} (h : parseRecord b = .ok r) : r.body = b := by
  obtain ⟨k, rest, hb, hlen, hf⟩ := parseRecord_eq_ok h
  have h0 : ∀ n : Nat, k.toNat = n → b[0]? = some (BitVec.ofNat 8 n) := by rintro n rfl; simp [hb]
  unfold parseFields at hf
  split at hf
  next hk => exact junction_body (by simpa [hk, recordLength?] using hlen.symm) (h0 _ hk) hf
  next hk => exact group_body (by simpa [hk, recordLength?] using hlen.symm) (h0 _ hk) hf
  next hk => exact circuit_body (by simpa [hk, recordLength?] using hlen.symm) (h0 _ hk) hf
  next hk => exact cable_body (by simpa [hk, recordLength?] using hlen.symm) (h0 _ hk) hf
  next hk => exact detector_body (by simpa [hk, recordLength?] using hlen.symm) (h0 _ hk) hf
  next hk => exact conflict_body (by simpa [hk, recordLength?] using hlen.symm) (h0 _ hk) hf
  next hk => exact severity_body (by simpa [hk, recordLength?] using hlen.symm) (h0 _ hk) hf
  next => cases hf

/-! ### A plan taken is laid out again as it was sent (R44, R45) -/

/-- The pieces of n bytes of a list, k of them from its front. -/
theorem flatMap_pieces (l : List Byte) (n k : Nat) :
    (List.range k).flatMap (fun i => (l.drop (n * i)).take n) = l.take (n * k) := by
  induction k with
  | zero => simp
  | succ k ih =>
    rw [List.range_succ, List.flatMap_append, ih, List.flatMap_singleton, Nat.mul_succ, List.take_add]

/-- What a plan that is taken has passed. -/
theorem parsePlan_eq_ok {b : List Byte} {p : Plan} (h : parsePlan b = .ok p) :
    ∃ m n rest mode, b = m :: n :: rest ∧ 2 ≤ n.toNat ∧ b.length = 4 + 9 * n.toNat
      ∧ planModeOfCode? m.toNat = some mode
      ∧ firstFailing (allStageChecks mode (field b 2 2) n.toNat b) = none
      ∧ p = ⟨mode, field b 2 2, (List.range n.toNat).map fun i => stageOf (i + 1) b⟩ := by
  unfold parsePlan at h
  split at h
  case h_2 => cases h
  case h_1 m n rest =>
  dsimp only at h
  split at h
  case isTrue => cases h
  case isFalse hlen =>
  split at h
  case h_1 => cases h
  case h_2 mode hmode =>
  generalize (!(if mode = .fixed then within 300 2400 (field (m :: n :: rest) 2 2)
    else field (m :: n :: rest) 2 2 == 0)) = bad at h
  cases bad
  case true => cases h
  case false =>
  simp only [Bool.false_eq_true, if_false] at h
  split at h
  case h_1 => cases h
  case h_2 hchecks =>
  cases h
  simp [within] at hlen
  exact ⟨m, n, rest, mode, rfl, hlen.1.1, hlen.2, hmode, hchecks, rfl⟩

/-- A stage whose `always` byte is yes or no is laid out again as its nine bytes. -/
theorem stageOf_bytes {b : List Byte} {i : Nat} (h : 4 + 9 * i + 9 ≤ b.length) (ha : field b (4 + 9 * i + 4) 1 ≤ 1) :
    (stageOf (i + 1) b).bytes = (b.drop (4 + 9 * i)).take 9 := by
  have hbit : [bit (field b (4 + 9 * i + 4) 1 == 1)] = (b.drop (4 + 9 * i + 4)).take 1 := by
    rw [List.drop_eq_getElem_cons (by omega), ← byte_field (by omega)]
    generalize field b (4 + 9 * i + 4) 1 = v at ha
    have : v = 0 ∨ v = 1 := by omega
    rcases this with rfl | rfl <;> rfl
  simp only [stageOf, Stage.bytes, BitVec.toNat_ofNat, Nat.add_sub_cancel]
  rw [show (2 : Nat) ^ 32 = 4294967296 from rfl, set_field]
  rw [le_field (by omega), le_field (by omega), le_field (by omega), hbit]
  generalize 4 + 9 * i = o
  rw [show (9 : Nat) = 4 + 1 + 2 + 2 from rfl]
  simp only [List.take_add, List.drop_drop]

/-- The `always` byte of each stage of a plan that is taken is yes or no. -/
theorem always_of_checks {mode : PlanMode} {cycle count i : Nat} {b : List Byte}
    (h : firstFailing (allStageChecks mode cycle count b) = none) (hi : i < count) :
    field b (4 + 9 * i + 4) 1 ≤ 1 := by
  have hmem : ∀ c ∈ stageChecks mode cycle (stageOf i b).change (i + 1) b, c.2 = true := fun c hc =>
    firstFailing_eq_none.1 h c (List.mem_flatMap.2 ⟨i + 1, (mem_numbers _ _).2 ⟨by omega, by omega⟩, hc⟩)
  cases mode with
  | fixed =>
    have := hmem (4 + 9 * i + 4, field b (4 + 9 * i + 4) 1 == 0) (by simp [stageChecks])
    simp at this
    omega
  | actuated =>
    have := hmem (4 + 9 * i + 4, (yesNo? (field b (4 + 9 * i + 4) 1)).isSome) (by simp [stageChecks])
    generalize field b (4 + 9 * i + 4) 1 = v at this
    unfold yesNo? at this
    split at this <;> simp at this ⊢

theorem parsePlan_body {b : List Byte} {p : Plan} (h : parsePlan b = .ok p) : p.body = b := by
  obtain ⟨m, n, rest, mode, hb, hn, hlen, hmode, hchecks, rfl⟩ := parsePlan_eq_ok h
  have hstages : ((List.range n.toNat).map fun i => stageOf (i + 1) b).flatMap Stage.bytes = b.drop 4 := by
    rw [List.flatMap_map]
    calc (List.range n.toNat).flatMap (fun i => (stageOf (i + 1) b).bytes)
        = (List.range n.toNat).flatMap (fun i => ((b.drop 4).drop (9 * i)).take 9) := by
          refine List.flatMap_congr fun i hi => ?_
          have hi := List.mem_range.1 hi
          rw [stageOf_bytes (by omega) (always_of_checks hchecks hi), List.drop_drop]
      _ = (b.drop 4).take (9 * n.toNat) := flatMap_pieces _ _ _
      _ = b.drop 4 := List.take_of_length_le (by rw [List.length_drop]; omega)
  rw [Plan.body, hstages, le_field (by omega), code_of_planModeOfCode? hmode]
  simp only [List.length_map, List.length_range, byte_toNat]
  rw [hb]
  simp only [List.drop_succ_cons, List.drop_zero]
  rw [← List.take_append_drop 2 rest]
  simp

/-- Settles O51: each body is cut into the fields it is laid out from, and a stage into its nine bytes. -/
theorem bodiesRoundTrip : Obligations.BodiesRoundTrip := by
  refine ⟨fun b r h => ?_, fun b p h => ?_⟩
  · exact ⟨parseRecord_body h, by rw [parseRecord_body h, h]⟩
  · exact ⟨parsePlan_body h, by rw [parsePlan_body h, h]⟩

end Sys2Proof.Machine
end

section
/-! PROOFS. DEF_CLEAR and DEF_RECORD: the checks of a record as R4 to R10 word them, and what is staged (R2 to R10). -/

namespace Sys2Proof.Machine

open Sys2Proof.Claims

/-! ### The checks of each kind of record, as R4 to R10 word them -/

theorem within_iff {lo hi v : Nat} : within lo hi v = true ↔ Between lo hi v := by simp [within, Between]

theorem withinOr_iff {m lo hi v : Nat} : withinOr m lo hi v = true ↔ BetweenOr m lo hi v := by
  simp [withinOr, BetweenOr, within_iff]

theorem yesNo?_isSome {n : Nat} : (yesNo? n).isSome = true ↔ n ≤ 1 := by
  unfold yesNo?
  split <;> simp_all; omega

theorem roleOfCode?_isSome {n : Nat} : (roleOfCode? n).isSome = true ↔ n ≤ 2 := by
  unfold roleOfCode?
  split <;> simp_all; omega

theorem groupKindOfCode?_isSome {n : Nat} : (groupKindOfCode? n).isSome = true ↔ n ≤ 2 := by
  unfold groupKindOfCode?
  split <;> simp_all; omega

theorem detKindOfCode?_isSome {n : Nat} : (detKindOfCode? n).isSome = true ↔ n ≤ 2 := by
  unfold detKindOfCode?
  split <;> simp_all; omega

theorem lampTypeOfCode?_isSome {n : Nat} : (lampTypeOfCode? n).isSome = true ↔ n ≤ 1 := by
  unfold lampTypeOfCode?
  split <;> simp_all; omega

theorem classModeOfCode?_isSome {n : Nat} : (classModeOfCode? n).isSome = true ↔ n ≤ 1 := by
  unfold classModeOfCode?
  split <;> simp_all; omega

theorem planModeOfCode?_isSome {n : Nat} : (planModeOfCode? n).isSome = true ↔ n ≤ 1 := by
  unfold planModeOfCode?
  split <;> simp_all; omega

theorem yesNo?_eq_true {n : Nat} : yesNo? n = some true ↔ n = 1 := by
  unfold yesNo?
  split <;> simp_all

theorem lampTypeOfCode?_eq_led {n : Nat} : lampTypeOfCode? n = some .led ↔ n = 1 := by
  unfold lampTypeOfCode?
  split <;> simp_all

theorem groupKindOfCode?_eq_vehicle {n : Nat} : groupKindOfCode? n = some .vehicle ↔ n = 0 := by
  unfold groupKindOfCode?
  split <;> simp_all

theorem groupKindOfCode?_eq_pedestrian {n : Nat} : groupKindOfCode? n = some .pedestrian ↔ n = 2 := by
  unfold groupKindOfCode?
  split <;> simp_all

theorem mem_allKinds (k : FaultKind) : k ∈ allKinds := by cases k <;> decide
theorem mem_allRows (r : RowSel) : r ∈ allRows := by cases r <;> decide
theorem mem_allSeverities (v : Severity) : v ∈ allSeverities := by cases v <;> decide

theorem kindOfCode?_code (k : FaultKind) : kindOfCode? k.code = some k := by cases k <;> decide
theorem rowOfCode?_code (r : RowSel) : rowOfCode? r.code = some r := by cases r <;> decide
theorem severityOfCode?_code (v : Severity) : severityOfCode? v.code = some v := by cases v <;> decide

theorem kindOfCode?_isSome {n : Nat} : (kindOfCode? n).isSome = true ↔ Between 1 25 n := by
  constructor
  · intro h
    obtain ⟨k, hk⟩ := Option.isSome_iff_exists.1 h
    rw [← code_of_kindOfCode? hk]
    cases k <;> simp [FaultKind.code, Between]
  · rintro ⟨h1, h2⟩
    interval_cases n <;> decide

theorem severityOfCode?_isSome {n : Nat} : (severityOfCode? n).isSome = true ↔ n ≤ 5 := by
  constructor
  · intro h
    obtain ⟨v, hv⟩ := Option.isSome_iff_exists.1 h
    rw [← code_of_severityOfCode? hv]
    cases v <;> decide
  · intro h
    interval_cases n <;> decide

/-- Whether a row selector is listed for a fault kind, both named by their codes (R10). -/
def codesListed (k r : Nat) : Bool :=
  match kindOfCode? k, rowOfCode? r with
  | some kind, some row => (rowBounds? kind row).isSome
  | _, _ => false

/-- The rows of the severity table by the codes: the circuit rows of kinds 1 to 5, the two of 6, the single row of the rest. -/
theorem codesListed_iff {k r : Nat} (hk : Between 1 25 k) :
    codesListed k r = true ↔
      (k ≤ 5 → Between 1 5 r) ∧ (k = 6 → Between 6 7 r) ∧ (7 ≤ k → r = 0) := by
  obtain ⟨h1, h2⟩ := hk
  by_cases hr : r ≤ 7
  · unfold Between
    interval_cases k <;> interval_cases r <;> decide
  · have hrow : rowOfCode? r = none := by
      rcases h : rowOfCode? r with _ | row
      · rfl
      · have := code_of_rowOfCode? h
        cases row <;> simp [RowSel.code] at this <;> omega
    have hl : codesListed k r = false := by
      unfold codesListed
      rw [hrow]
      cases kindOfCode? k <;> rfl
    rw [hl]
    simp only [Bool.false_eq_true, false_iff, Between]
    omega

/-- A body's fields are judged by checks that agree with those of its kind, and a body that passes them all is a record. -/
def ChecksAs (code : Nat) (b : List Byte) : Prop :=
  ∃ cs o, parseFields code b = checked cs o ∧ Agrees cs (recordChecks b code)
    ∧ (firstFailing cs = none → o.isSome = true)

theorem junction_checks (b : List Byte) : ChecksAs 1 b := by
  refine ⟨_, _, rfl, ?_, fun h => ?_⟩
  · simp [Agrees, recordChecks, within_iff, withinOr_iff, yesNo?_isSome]
  · simpa using firstFailing_eq_none.1 h (4, (yesNo? (field b 4 1)).isSome) (by simp)

theorem group_checks (b : List Byte) : ChecksAs 2 b := by
  refine ⟨_, _, rfl, ?_, fun h => ?_⟩
  · simp only [Agrees, recordChecks, within_iff, yesNo?_isSome, groupKindOfCode?_isSome, groupKindOfCode?_eq_vehicle,
      groupKindOfCode?_eq_pedestrian]
    simp [apply_ite (· = true), within_iff]
  · have hk : (groupKindOfCode? (field b 2 1)).isSome = true := by simpa using firstFailing_eq_none.1 h (2, _) (by simp)
    have hy : (yesNo? (field b 10 1)).isSome = true := by simpa using firstFailing_eq_none.1 h (10, _) (by simp)
    obtain ⟨k, hk⟩ := Option.isSome_iff_exists.1 hk
    simpa [hk] using hy

theorem circuit_checks (b : List Byte) : ChecksAs 3 b := by
  refine ⟨_, _, rfl, ?_, fun h => ?_⟩
  · simp [Agrees, recordChecks, within_iff, withinOr_iff, yesNo?_isSome, roleOfCode?_isSome, lampTypeOfCode?_isSome,
      yesNo?_eq_true, lampTypeOfCode?_eq_led, -not_and, not_and_or]
  · have hr : (roleOfCode? (field b 3 1)).isSome = true := by simpa using firstFailing_eq_none.1 h (3, _) (by simp)
    have hl : (lampTypeOfCode? (field b 6 1)).isSome = true := by simpa using firstFailing_eq_none.1 h (6, _) (by simp)
    have h11 : (yesNo? (field b 11 1)).isSome = true := by
      simpa using firstFailing_eq_none.1 h (11, (yesNo? (field b 11 1)).isSome) (by simp)
    have h12 : (yesNo? (field b 12 1)).isSome = true := by simpa using firstFailing_eq_none.1 h (12, _) (by simp)
    obtain ⟨r, hr⟩ := Option.isSome_iff_exists.1 hr
    obtain ⟨l, hl⟩ := Option.isSome_iff_exists.1 hl
    obtain ⟨y, h11⟩ := Option.isSome_iff_exists.1 h11
    simpa [hr, hl, h11] using h12

theorem cable_checks (b : List Byte) : ChecksAs 4 b := by
  unfold ChecksAs parseFields parseCable
  dsimp only
  refine ⟨_, _, rfl, ?_, ?_⟩
  · simp [Agrees, recordChecks, within_iff, withinOr_iff, CableRec.warnLevel, CableRec.faultLevel, resolve]
  · exact fun _ => rfl

theorem detector_checks (b : List Byte) : ChecksAs 5 b := by
  refine ⟨_, _, rfl, ?_, fun h => ?_⟩
  · simp [Agrees, recordChecks, within_iff, withinOr_iff, detKindOfCode?_isSome, classModeOfCode?_isSome]
  · have hk : (detKindOfCode? (field b 2 1)).isSome = true := by simpa using firstFailing_eq_none.1 h (2, _) (by simp)
    have hm : (classModeOfCode? (field b 14 1)).isSome = true := by simpa using firstFailing_eq_none.1 h (14, _) (by simp)
    obtain ⟨k, hk⟩ := Option.isSome_iff_exists.1 hk
    simpa [hk] using hm

theorem conflict_checks (b : List Byte) : ChecksAs 6 b := by
  unfold ChecksAs parseFields parseConflict
  dsimp only
  refine ⟨_, _, rfl, ?_, ?_⟩
  · simp [Agrees, recordChecks, within_iff]
  · exact fun _ => rfl

theorem severity_checks (b : List Byte) : ChecksAs 7 b := by
  refine ⟨[(1, (kindOfCode? (field b 1 1)).isSome), (2, codesListed (field b 1 1) (field b 2 1)),
    (3, (severityOfCode? (field b 3 1)).isSome)], _, rfl, ?_, fun h => ?_⟩
  · simp only [Agrees, recordChecks, kindOfCode?_isSome, severityOfCode?_isSome, true_and, and_true, implies_true, iff_self]
    exact fun hk => codesListed_iff hk
  · have hl : codesListed (field b 1 1) (field b 2 1) = true := by simpa using firstFailing_eq_none.1 h (2, _) (by simp)
    have hs : (severityOfCode? (field b 3 1)).isSome = true := by simpa using firstFailing_eq_none.1 h (3, _) (by simp)
    unfold codesListed at hl
    split at hl
    next k r hk hr => simpa [hk, hr] using hs
    next => cases hl

theorem checksAs (code : Nat) (b : List Byte) (h1 : 1 ≤ code) (h7 : code ≤ 7) : ChecksAs code b := by
  interval_cases code
  · exact junction_checks b
  · exact group_checks b
  · exact circuit_checks b
  · exact cable_checks b
  · exact detector_checks b
  · exact conflict_checks b
  · exact severity_checks b

theorem recordLength?_eq_some {n len : Nat} :
    recordLength? n = some len ↔ 1 ≤ n ∧ n ≤ 7 ∧ ([17, 11, 13, 5, 17, 7, 4] : List Nat)[n - 1]? = some len := by
  unfold recordLength?
  split <;> simp_all
  omega

theorem recordLength?_eq_none {n : Nat} (h : n = 0 ∨ 8 ≤ n) : recordLength? n = none := by
  unfold recordLength?
  split <;> simp_all

theorem parseRecord_unknown {k : Byte} {rest : List Byte} (h : k.toNat = 0 ∨ 8 ≤ k.toNat) :
    parseRecord (k :: rest) = .error (.field 0) := by
  simp [parseRecord, recordLength?_eq_none h]

theorem parseRecord_length {k : Byte} {rest : List Byte} {len : Nat} (h : recordLength? k.toNat = some len) :
    parseRecord (k :: rest) =
      if (k :: rest).length = len then parseFields k.toNat (k :: rest) else .error .length := by
  simp only [parseRecord, h]

/-- A body of its kind's length is taken where every check of its kind holds. -/
theorem parseFields_ok {code : Nat} {b : List Byte} (h : ChecksAs code b) (ha : AllHold (recordChecks b code)) :
    ∃ r, parseFields code b = .ok r := by
  obtain ⟨cs, o, hp, hagree, hsome⟩ := h
  have hn := hagree.firstFailing_none ha
  obtain ⟨r, hr⟩ := Option.isSome_iff_exists.1 (hsome hn)
  exact ⟨r, by rw [hp, checked_eq_ok]; exact ⟨hn, hr⟩⟩

/-- A body of its kind's length is refused by the first check of its kind that fails. -/
theorem parseFields_error {code off : Nat} {b : List Byte} (h : ChecksAs code b)
    (hf : FirstFails (recordChecks b code) off) : parseFields code b = .error (.field off) := by
  obtain ⟨cs, o, hp, hagree, -⟩ := h
  rw [hp]
  simp only [checked, hagree.firstFailing_some hf]

/-! ### The requests -/

theorem exec_defClear {s : State} (h : Hears s) : exec .defClear s = .next s.reqDefClear :=
  congrArg Host.Outcome.next (handed_of_hears h _)

theorem exec_defRecord {s : State} (h : Hears s) (b : List Byte) : exec (.defRecord b) s = .next (s.reqDefRecord b) :=
  congrArg Host.Outcome.next (handed_of_hears h _)

theorem reqDefRecord_ok {s : State} {b : List Byte} {r : DefRecord} (h : parseRecord b = .ok r) :
    s.reqDefRecord b = (s.answer Machine.reqDefRecord [0#8]).onDt fun t => { t with staging := t.staging.insert r } := by
  simp only [State.reqDefRecord, h]
  rfl

theorem reqDefRecord_error {s : State} {b : List Byte} {e : BodyFault} (h : parseRecord b = .error e) :
    s.reqDefRecord b = s.answer Machine.reqDefRecord e.refusal := by
  simp only [State.reqDefRecord, h]

/-- Settles O21: the checks a kind's parser makes are those of the statement in the same order (`checksAs`), and the request acts
on staging alone. -/
theorem definitionStaging : Obligations.DefinitionStaging := by
  intro s b hs
  refine ⟨⟨_, exec_defClear hs, ⟨replied_of_replyTo hs.1 rfl rfl, rfl⟩, rfl⟩, fun r hr => ?_, fun he => ?_, fun off he => ?_,
    fun hb => by rw [hb]; rfl, fun k rest hb => ⟨fun hk => hb ▸ parseRecord_unknown hk, fun len h1 hlen => ?_⟩⟩
  · exact ⟨_, exec_defRecord hs b, by rw [reqDefRecord_ok hr]; exact ⟨replied_of_replyTo hs.1 rfl rfl, rfl⟩,
      by rw [reqDefRecord_ok hr]; rfl⟩
  · exact ⟨_, exec_defRecord hs b, by rw [reqDefRecord_error he]; exact answer_only hs.1 _ _⟩
  · exact ⟨_, exec_defRecord hs b, by rw [reqDefRecord_error he]; exact answer_only hs.1 _ _⟩
  · have h7 : k.toNat ≤ 7 := by
      have := (List.getElem?_eq_some_iff.1 hlen).1
      simp only [List.length_cons, List.length_nil] at this
      omega
    have hchecks := checksAs k.toNat b h1 h7
    have hp := parseRecord_length (rest := rest) (recordLength?_eq_some.2 ⟨h1, h7, hlen⟩)
    rw [← hb] at hp
    rw [hp]
    refine ⟨fun hne => if_neg hne, fun he ha => ?_, fun he off hf => ?_⟩
    · rw [if_pos he]
      exact parseFields_ok hchecks ha
    · rw [if_pos he]
      exact parseFields_error hchecks hf

end Sys2Proof.Machine
end

section
/-! PROOFS. DEF_COMMIT in a state that no run reaches: a group in GREEN in DARK, where R22 has every group at rest. -/

namespace Sys2Proof.Machine

open Sys2Proof.Claims

/-- One ARROW group with the one circuit it needs. -/
def arrowDef : DefSet where
  junction := some ⟨230, false, 0xFFFF, 0xFF, 0xFF, 0xFF, 0xFF, 0xFF, 0xFFFF, 0, 1⟩
  groups := [(1, ⟨.arrow, 40, 0, 0, 0, 0, false⟩)]
  circuits := [(1, ⟨1, .green, 1, 1, .led, 1, 100, 0xFF, false, false⟩)]
  cables := [(1, ⟨0xFF, 0xFFFF⟩)]
  detectors := []
  conflicts := []
  severities := []

/-- The junction of the one group, DARK, with the same definition staged: the group is in GREEN with an end tag, and its circuit has
a latched LAMP_OUT of severity LOCKOUT that the lockout set does not follow yet. -/
def greenInDark : State :=
  { State.reset with
    loading := false
    dt := ⟨arrowDef, true, 0, arrowDef⟩
    gs := ⟨[(1, { GroupRun.fresh .dark 0 with aspect := .green })], none, false, 0, true⟩
    fru := ⟨[(faultKey (.circuit 1) .lampOut, ⟨false, true, 0, 0, .vGreen, .lockout, 0⟩)], [], .dark, false, false, 0, none⟩
    ru := { recordingAtReset with groups := tupd recordingAtReset.groups 1 fun v => { v with tag := .gapOut } } }

theorem greenInDark_hears : Hears greenInDark := ⟨by unfold Addressed; decide, rfl, rfl⟩

theorem greenInDark_shaped : greenInDark.Shaped := by
  unfold State.Shaped
  decide +kernel

theorem exec_defCommit {s : State} (h : Hears s) (id : BitVec 32) : exec (.defCommit id) s = .next (s.reqDefCommit id) :=
  congrArg Host.Outcome.next (handed_of_hears h _)

/-- What the statement says of the service record of a group defined before and after a commit taken in DARK. -/
theorem service_stands_of_defCommitInstalls (h : Obligations.DefCommitInstalls) {s : State} (hs : Hears s) (hshape : s.Shaped)
    (hm : s.fru.mode = .dark) (hw : s.writing 1 = false) (hv : validate s.dt.staging = none) {g : Nat} {v : GroupService}
    (hg : tget? s.ru.groups g = some v) (hnew : tget? s.dt.staging.groups g ≠ none) (hold : s.groupRec? g ≠ none) :
    ∃ w, tget? (s.reqDefCommit s.dt.staging.computeIdentity).ru.groups g = some w ∧ w = { v with wait := w.wait } := by
  obtain ⟨-, -, hcommit, -⟩ := h
  obtain ⟨-, htaken⟩ := hcommit s s.dt.staging.computeIdentity hs
  obtain ⟨-, -, -, hinstall⟩ := htaken (.inl hm)
  obtain ⟨t, ht, -, -, -, -, -, -, -, -, -, -, -, -, -, -, -, -, -, -, -, -, -, -, -, -, -, hservice, -⟩ :=
    hinstall hshape hw rfl hv
  rw [exec_defCommit hs] at ht
  cases ht
  obtain ⟨w, hget, -, hkept, -⟩ := hservice g v hg
  exact ⟨w, hget, hkept hnew hold⟩

/-- The commit locks the group out, and so ends its green: the end tag is none again (R34, R161). -/
theorem greenInDark_commit_tag :
    (tget? greenInDark.ru.groups 1).map (·.tag) = some .gapOut
      ∧ (tget? (greenInDark.reqDefCommit greenInDark.dt.staging.computeIdentity).ru.groups 1).map (·.tag) = some .none := by
  decide +kernel

/-- Refutes O22: no premise says that the groups are at rest in DARK and FLASH (`State.RestOutsideAspect`), and in `greenInDark` a
re-rated lamp fault locks a GREEN out at the commit, so that the service record of a group defined before and after loses its end
tag where the statement lets only the wait latch change. -/
theorem not_defCommitInstalls : ¬ Obligations.DefCommitInstalls := by
  intro h
  obtain ⟨hbefore, hafter⟩ := greenInDark_commit_tag
  obtain ⟨v, hv, hvtag⟩ := Option.map_eq_some_iff.1 hbefore
  obtain ⟨w, hw, hkept⟩ := service_stands_of_defCommitInstalls h greenInDark_hears greenInDark_shaped rfl rfl
    (by decide +kernel) hv (by decide) (by decide)
  have htag : w.tag = v.tag := by rw [hkept]
  rw [hw, Option.map_some, htag, hvtag] at hafter
  cases hafter

end Sys2Proof.Machine
end

section
/-! PROOFS. FAULT_READ: the fields of the reply, the severity table and the parts (R10, R14, R132, R133, R183). -/

namespace Sys2Proof.Machine

open Sys2Proof.Claims

/-! ### Fields of contents laid out piece by piece -/

theorem le_length (n v : Nat) : (le n v).length = n := by
  induction n generalizing v with
  | zero => rfl
  | succ n ih => simp [le, ih]

/-- A field read from where a content goes on as another. -/
theorem field_of_drop {b x : List Byte} {o : Nat} (h : b.drop o = x) (k n : Nat) : field b (o + k) n = field x k n := by
  rw [field, ← List.drop_drop, h, field]

/-- Pieces of one length, one for each member of a list: the i-th stands n × i bytes on. -/
theorem drop_flatMap {α : Type} {l : List α} {f : α → List Byte} {n i : Nat} {e : α} (hf : ∀ a, (f a).length = n)
    (h : l[i]? = some e) (tail : List Byte) : ∃ rest, (l.flatMap f ++ tail).drop (n * i) = f e ++ rest := by
  induction l generalizing i with
  | nil => cases h
  | cons a l ih =>
    cases i with
    | zero => cases h; exact ⟨l.flatMap f ++ tail, by simp⟩
    | succ i =>
      obtain ⟨rest, hrest⟩ := ih (by simpa using h)
      refine ⟨rest, ?_⟩
      rw [List.flatMap_cons, List.append_assoc, Nat.mul_succ, Nat.add_comm, ← List.drop_drop, List.drop_left' (hf a), hrest]

theorem length_flatMap_pieces {α : Type} (l : List α) {f : α → List Byte} {n : Nat} (hf : ∀ a, (f a).length = n) :
    (l.flatMap f).length = n * l.length := by
  simp [List.length_flatMap, hf, Nat.mul_comm]

theorem thas_iff {α : Type} {t : Table α} {k : Nat} : thas t k = true ↔ ∃ e ∈ t, e.1 = k := by
  induction t with
  | nil => simp [thas]
  | cons e t ih =>
    rw [thas, tget?_cons]
    split
    next h => simp [h]
    next h => simpa [h, thas] using ih

/-! ### The fields of an entry -/

theorem entryContent_length (f : Response) (key : Nat) (e : FaultEntry) : (f.entryContent key e).length = 15 := by
  simp [Response.entryContent, le_length]

theorem toNat_byte (n : Nat) : (byte n).toNat = n % 256 := by simp [byte]

/-- The fifteen bytes of an entry (section 11.8). -/
theorem entryContent_fields (f : Response) (key : Nat) (e : FaultEntry) (rest : List Byte) :
    let x := f.entryContent key e ++ rest
    field x 0 1 = keySourceCode key % 256 ∧ field x 1 1 = keyNumber key % 256 ∧ field x 2 1 = keyKindCode key % 256
      ∧ (tget? f.table key = some e → field x 3 1 = (if e.live then 1 else 0) + (if e.latched then 2 else 0))
      ∧ field x 4 4 = e.first % 4294967296 ∧ field x 8 4 = e.last % 4294967296
      ∧ field x 12 1 = e.row.code ∧ field x 13 1 = e.sev.code ∧ field x 14 1 = e.partner % 256 := by
  have hrow : e.row.code < 256 := by cases e.row <;> decide
  have hsev : e.sev.code < 256 := by cases e.sev <;> decide
  simp only [Response.entryContent, le, field, fromLE, List.cons_append, List.nil_append, List.drop_succ_cons, List.drop_zero,
    List.take_succ_cons, List.take_zero, BitVec.toNat_ofNat, toNat_byte]
  refine ⟨by omega, by omega, by omega, fun h => ?_, by omega, by omega, by omega, by omega, by omega⟩
  rw [show f.entryBits key = [e.live, e.latched] by simp [Response.entryBits, h]]
  cases e.live <;> cases e.latched <;> rfl

/-! ### The content of the ENTRIES form -/

/-- The entries of a source, or of all sources (R132). -/
def found (s : State) (k n : Byte) : Table FaultEntry :=
  s.fru.table.filter fun e => k = 0xFF#8 ∨ (keySourceCode e.1 = k.toNat ∧ keyNumber e.1 = n.toNat)

/-- The pairs that stand confirmed (R123). -/
def confirmed (s : State) : Table Nat := s.cm.pairs.filter fun e => e.2 = 2

theorem matching_eq_found (s : State) (k n : Byte) : s.fru.matching k.toNat n.toNat = found s k n := by
  have hk : k.toNat = 0xFF ↔ k = 0xFF#8 := by
    rw [← BitVec.toNat_inj]
    rfl
  refine List.filter_congr fun e _ => ?_
  rw [Bool.eq_iff_iff]
  simp [hk]

theorem confirmedPairs_eq (s : State) : s.cm.confirmedPairs = (confirmed s).map Prod.fst :=
  congrArg (List.map Prod.fst) (List.filter_congr fun _ _ => by rw [Bool.eq_iff_iff]; simp)

/-- The entries sent: up to 12 from the starting position (R132). -/
def sentFrom (s : State) (k n st : Byte) : Table FaultEntry := ((found s k n).drop st.toNat).take 12

theorem sentFrom_get {s : State} {k n st : Byte} {i : Nat} (hi : i < 12) :
    (sentFrom s k n st)[i]? = (found s k n)[st.toNat + i]? := by
  rw [sentFrom, List.getElem?_take_of_lt hi, List.getElem?_drop]

theorem sentFrom_length (s : State) (k n st : Byte) :
    (sentFrom s k n st).length = min 12 ((found s k n).length - st.toNat) := by
  simp [sentFrom]

/-- Whether the CONFLICT entry is among those sent. -/
theorem thas_sentFrom {s : State} {k n st : Byte} {key : Nat} :
    thas (sentFrom s k n st) key = true
      ↔ ∃ i e, i < 12 ∧ (found s k n)[st.toNat + i]? = some e ∧ e.1 = key := by
  rw [thas_iff]
  constructor
  · rintro ⟨e, he, hkey⟩
    obtain ⟨i, hi⟩ := List.mem_iff_getElem?.1 he
    have hlt : i < 12 := by
      have := (List.getElem?_eq_some_iff.1 hi).1
      rw [sentFrom_length] at this
      omega
    exact ⟨i, e, hlt, by rw [← sentFrom_get hlt, hi], hkey⟩
  · rintro ⟨i, e, hlt, hi, hkey⟩
    exact ⟨e, List.mem_of_getElem? (by rw [sentFrom_get hlt, hi]), hkey⟩

/-- The pairs sent after the entries: those confirmed where CONFLICT is among them, and else none (R132). -/
def pairsSent (s : State) (k n st : Byte) : List Nat :=
  if thas (sentFrom s k n st) (faultKey .junction .conflict) then (confirmed s).map Prod.fst else []

/-- The two bytes of a confirmed pair. -/
def pairBytes (k : Nat) : List Byte := [byte (k / 256), byte (k % 256)]

/-- The content, its three parts apart (section 11.8). -/
theorem entriesContent_eq (s : State) (k n st : Byte) :
    s.entriesContent k.toNat n.toNat st.toNat =
      (le 2 (found s k n).length ++ [byte (sentFrom s k n st).length])
        ++ ((sentFrom s k n st).flatMap (fun e => s.fru.entryContent e.1 e.2)
          ++ countByte (pairsSent s k n st).length :: (pairsSent s k n st).flatMap pairBytes) := by
  simp only [State.entriesContent, matching_eq_found, confirmedPairs_eq, List.append_assoc]
  rfl

theorem entriesContent_head (s : State) (k n st : Byte) :
    field (s.entriesContent k.toNat n.toNat st.toNat) 0 2 = (found s k n).length % 65536
      ∧ field (s.entriesContent k.toNat n.toNat st.toNat) 2 1 = (sentFrom s k n st).length := by
  have hsent : (sentFrom s k n st).length < 256 := by rw [sentFrom_length]; omega
  rw [entriesContent_eq]
  simp only [le, field, fromLE, List.cons_append, List.nil_append, List.drop_succ_cons, List.drop_zero, List.take_succ_cons,
    List.take_zero, BitVec.toNat_ofNat, toNat_byte]
  omega

/-- After its head the content goes on with the entries and the pairs. -/
theorem entriesContent_drop (s : State) (k n st : Byte) :
    (s.entriesContent k.toNat n.toNat st.toNat).drop 3 =
      (sentFrom s k n st).flatMap (fun e => s.fru.entryContent e.1 e.2)
        ++ countByte (pairsSent s k n st).length :: (pairsSent s k n st).flatMap pairBytes := by
  rw [entriesContent_eq]
  exact List.drop_left' (by simp [le_length])

/-- After the i-th place the content goes on with the i-th entry. -/
theorem entriesContent_drop_entry {s : State} {k n st : Byte} {i : Nat} {e : Nat × FaultEntry} (hi : i < 12)
    (he : (found s k n)[st.toNat + i]? = some e) :
    ∃ rest, (s.entriesContent k.toNat n.toNat st.toNat).drop (3 + 15 * i) = s.fru.entryContent e.1 e.2 ++ rest := by
  rw [← List.drop_drop, entriesContent_drop]
  exact drop_flatMap (f := fun e : Nat × FaultEntry => s.fru.entryContent e.1 e.2) (fun e => entryContent_length _ _ _)
    (by rw [sentFrom_get hi, he]) _

/-- After the entries the content goes on with the count of the pairs and the pairs. -/
theorem entriesContent_drop_pairs (s : State) (k n st : Byte) :
    (s.entriesContent k.toNat n.toNat st.toNat).drop (3 + 15 * (sentFrom s k n st).length) =
      countByte (pairsSent s k n st).length :: (pairsSent s k n st).flatMap pairBytes := by
  rw [← List.drop_drop, entriesContent_drop]
  exact List.drop_left' (length_flatMap_pieces _ fun e => entryContent_length _ _ _)

theorem toNat_countByte {n : Nat} (h : n ≤ 255) : (countByte n).toNat = n := by
  rw [countByte, if_pos h, toNat_byte]
  omega

/-! ### The severity table (R10, R14, R133) -/

/-- The bounds a list of rows gives a kind and a selector. -/
def boundsIn (rows : List SeverityRow) (kind : FaultKind) (row : RowSel) : List RowBounds :=
  (rows.filter fun r => r.1 = kind ∧ r.2.1 = row).map fun r => ⟨r.2.2.1, r.2.2.2.1, r.2.2.2.2⟩

theorem mem_boundsIn {rows : List SeverityRow} {kind : FaultKind} {row : RowSel} {b : RowBounds} :
    b ∈ boundsIn rows kind row ↔ (kind, row, b.default, b.floor, b.max) ∈ rows := by
  simp only [boundsIn, List.mem_map, List.mem_filter, decide_eq_true_eq]
  constructor
  · rintro ⟨⟨kind', row', d, f, m⟩, ⟨hmem, rfl, rfl⟩, rfl⟩
    exact hmem
  · exact fun h => ⟨_, ⟨h, rfl, rfl⟩, rfl⟩

theorem rowBounds?_toList (kind : FaultKind) (row : RowSel) :
    (rowBounds? kind row).toList = boundsIn severityTable kind row := by
  have hall : ∀ kind ∈ allKinds, ∀ row ∈ allRows, (rowBounds? kind row).toList = boundsIn severityTable kind row := by
    decide +kernel
  exact hall kind (mem_allKinds kind) row (mem_allRows row)

theorem rowBounds?_iff (kind : FaultKind) (row : RowSel) (b : RowBounds) :
    rowBounds? kind row = some b ↔ (kind, row, b.default, b.floor, b.max) ∈ severityTable := by
  rw [← mem_boundsIn, ← rowBounds?_toList, Option.mem_toList]

theorem circuitRow_iff {kind : FaultKind} : kind.circuitRow = true ↔ OnCircuit kind := by
  cases kind <;> simp [FaultKind.circuitRow, OnCircuit]

theorem rank_eq_code (v : Severity) : rank v = v.code := by cases v <;> rfl

theorem boundSeverity_bounded (kind : FaultKind) (b : RowBounds) (cfg : Severity) :
    BoundedTo kind b cfg (boundSeverity kind b cfg) := by
  refine ⟨if cfg = .lockout && !kind.circuitRow then .flash else cfg, fun h => ?_, fun h => ?_, ?_⟩
  · simp [h.1, mt circuitRow_iff.1 h.2]
  · rcases h with h | h
    · simp [h]
    · simp [circuitRow_iff.2 h]
  · unfold boundSeverity
    generalize (if cfg = .lockout && !kind.circuitRow then Severity.flash else cfg) = x
    simp only [rank_eq_code]
    refine ⟨fun h => if_pos h, fun h1 h2 => ?_, fun h1 h2 => ?_⟩
    · rw [if_neg (by omega), if_pos h2]
    · rw [if_neg (by omega), if_neg (by omega)]

theorem effective_of_row {d : DefSet} {kind : FaultKind} {row : RowSel} {b : RowBounds} (h : rowBounds? kind row = some b) :
    d.effective kind row = match tget? d.severities (severityKey kind row) with
      | none => b.default
      | some cfg => boundSeverity kind b cfg := by
  simp only [DefSet.effective, h] <;> rfl

/-- The five bytes of the ROWS form (section 11.8). -/
theorem rowsContent_of_row {s : State} {k n : Byte} {kind : FaultKind} {row : RowSel} {b : RowBounds}
    (hkind : kindOfCode? k.toNat = some kind) (hrow : rowOfCode? n.toNat = some row) (hb : rowBounds? kind row = some b) :
    s.rowsContent k.toNat n.toNat =
      [(match tget? s.dt.live.severities (256 * k.toNat + n.toNat) with
        | some v => BitVec.ofNat 8 v.code
        | none => 0xFF#8),
      BitVec.ofNat 8 b.default.code, BitVec.ofNat 8 b.floor.code, BitVec.ofNat 8 b.max.code,
      BitVec.ofNat 8 (s.dt.live.effective kind row).code] := by
  simp only [State.rowsContent, hkind, hrow, hb, severityKey, pairKey, code_of_kindOfCode? hkind, code_of_rowOfCode? hrow] <;> rfl

/-! ### The request -/

theorem exec_faultReadEntries {s : State} (h : Hears s) (k n st p : Byte) :
    exec (.faultReadEntries k n st p) s = .next (s.reqFaultEntries k n st p) :=
  congrArg Host.Outcome.next (handed_of_hears h _)

theorem exec_faultReadRows {s : State} (h : Hears s) (k n st p : Byte) :
    exec (.faultReadRows k n st p) s = .next (s.reqFaultRows k n st p) :=
  congrArg Host.Outcome.next (handed_of_hears h _)

theorem sourceTop?_all {k : Byte} (h : k = 0xFF#8) : sourceTop? k.toNat = none := by subst h; rfl

theorem sourceTop?_of_numberOk {k n : Nat} (h : sourceNumberOk k n = true) : (sourceTop? k).isSome = true := by
  unfold sourceNumberOk at h
  cases hk : sourceTop? k with
  | none => simp [hk] at h
  | some top => rfl

theorem reqFaultEntries_taken {s : State} {k n : Byte} (st : Byte)
    (h : k = 0xFF#8 ∨ sourceNumberOk k.toNat n.toNat = true) :
    s.reqFaultEntries k n st 0#8
      = s.answerHeld Machine.reqFaultRead [0#8, k, n, st] (s.entriesContent k.toNat n.toNat st.toNat) := by
  have hc : firstFailing (faultEntriesChecks k n) = none := by
    rw [firstFailing_eq_none]
    rcases h with h | h
    · simp [faultEntriesChecks, h]
    · simp [faultEntriesChecks, h, sourceTop?_of_numberOk h]
  simp only [State.reqFaultEntries, State.checkFields, hc, if_true]

theorem reqFaultEntries_refused {s : State} {k n : Byte} {off : Nat} (st : Byte)
    (h : firstFailing (faultEntriesChecks k n) = some off) :
    s.reqFaultEntries k n st 0#8 = s.answer Machine.reqFaultRead (refusedField off) := by
  simp only [State.reqFaultEntries, State.checkFields, h, if_true]

theorem reqFaultRows_taken {s : State} {k n : Byte} (st : Byte) (h : firstFailing (faultRowsChecks k n) = none) :
    s.reqFaultRows k n st 0#8
      = s.answerHeld Machine.reqFaultRead [1#8, k, n, st] (s.rowsContent k.toNat n.toNat) := by
  simp only [State.reqFaultRows, State.checkFields, h, if_true]

theorem reqFaultRows_refused {s : State} {k n : Byte} {off : Nat} (st : Byte)
    (h : firstFailing (faultRowsChecks k n) = some off) :
    s.reqFaultRows k n st 0#8 = s.answer Machine.reqFaultRead (refusedField off) := by
  simp only [State.reqFaultRows, State.checkFields, h, if_true]

theorem reqFaultEntries_later (s : State) {p : Byte} (k n st : Byte) (h : 1 ≤ p.toNat) :
    s.reqFaultEntries k n st p = s.answerFromHeld Machine.reqFaultRead [0#8, k, n, st] p.toNat 4 := by
  rw [State.reqFaultEntries, if_neg (by rintro rfl; exact absurd h (by decide))]

theorem reqFaultRows_later (s : State) {p : Byte} (k n st : Byte) (h : 1 ≤ p.toNat) :
    s.reqFaultRows k n st p = s.answerFromHeld Machine.reqFaultRead [1#8, k, n, st] p.toNat 4 := by
  rw [State.reqFaultRows, if_neg (by rintro rfl; exact absurd h (by decide))]

/-- A read answered in parts: the content is held and its first part sent (R183). -/
theorem answerHeld_replied {s : State} (h : Addressed s) (kind : Nat) (request content : List Byte) :
    Replied (s.answerHeld kind request content) kind
      (0#8 :: 0#8 :: BitVec.ofNat 8 (partCount content) :: content.take 236) :=
  replied_of_replyTo h rfl rfl

/-- A content of one part is sent whole. -/
theorem answerHeld_one_part {s : State} (h : Addressed s) (kind : Nat) (request : List Byte) {content : List Byte}
    (hl : content.length ≤ 236) : Replied (s.answerHeld kind request content) kind (0#8 :: 0#8 :: 1#8 :: content) := by
  have hparts : partCount content = 1 := by simp only [partCount, Config.partBytes]; omega
  have hreply := answerHeld_replied h kind request content
  rwa [hparts, List.take_of_length_le hl] at hreply

/-- A part asked for of the read held: the part, or a refusal at the part number's offset (R183). -/
theorem answerFromHeld_match {s : State} (h : Addressed s) {kind part : Nat} {request : List Byte} (off : Nat) {r : HeldRead}
    (hr : s.li.held = some r) (hk : r.kind = kind) (hb : r.body = request) :
    (part < partCount r.content → Replied (s.answerFromHeld kind request part off) kind
        (0#8 :: byte part :: BitVec.ofNat 8 (partCount r.content) :: (r.content.drop (236 * part)).take 236))
      ∧ (partCount r.content ≤ part → Replied (s.answerFromHeld kind request part off) kind (refusedField off)) := by
  simp only [State.answerFromHeld, hr, hk, hb, and_self, if_true]
  refine ⟨fun hp => ?_, fun hp => ?_⟩
  · rw [if_pos hp]
    exact answerPart_replied h _ _
  · rw [if_neg (by omega)]
    exact answerPart_replied h _ _

/-- With no read held of that request the part is refused as empty (R183). -/
theorem answerFromHeld_empty {s : State} (h : Addressed s) {kind : Nat} {request : List Byte} (part off : Nat)
    (hr : ∀ r, s.li.held = some r → r.kind ≠ kind ∨ r.body ≠ request) :
    Replied (s.answerFromHeld kind request part off) kind refusedEmpty := by
  unfold State.answerFromHeld
  split
  next r hheld =>
    rw [if_neg (by rintro ⟨hk, hb⟩; exact (hr r hheld).elim (· hk) (· hb))]
    exact answerPart_replied h _ _
  next => exact answerPart_replied h _ _

theorem answerFromHeld_frame (s : State) (kind : Nat) (request : List Byte) (part off : Nat) :
    s.answerFromHeld kind request part off
      = { s with li := { s.li with reply := (s.answerFromHeld kind request part off).li.reply } } := by
  unfold State.answerFromHeld
  split
  · split
    · split <;> rfl
    · rfl
  · rfl

/-- What the statement says of the content of the ENTRIES form. -/
theorem entriesContent_fields (s : State) (k n st : Byte) :
    let content := s.entriesContent k.toNat n.toNat st.toNat
    let sent := min 12 ((found s k n).length - st.toNat)
    field content 0 2 = (found s k n).length % 65536 ∧ field content 2 1 = sent
      ∧ (∀ i e, i < 12 → (found s k n)[st.toNat + i]? = some e →
          field content (3 + 15 * i) 1 = keySourceCode e.1 % 256
          ∧ field content (4 + 15 * i) 1 = keyNumber e.1 % 256
          ∧ field content (5 + 15 * i) 1 = keyKindCode e.1 % 256
          ∧ (tget? s.fru.table e.1 = some e.2 →
              field content (6 + 15 * i) 1 = (if e.2.live then 1 else 0) + (if e.2.latched then 2 else 0))
          ∧ field content (7 + 15 * i) 4 = e.2.first % 4294967296
          ∧ field content (11 + 15 * i) 4 = e.2.last % 4294967296
          ∧ field content (15 + 15 * i) 1 = e.2.row.code ∧ field content (16 + 15 * i) 1 = e.2.sev.code
          ∧ field content (17 + 15 * i) 1 = e.2.partner % 256)
      ∧ ((∀ i e, i < 12 → (found s k n)[st.toNat + i]? = some e → e.1 ≠ faultKey .junction .conflict) →
          field content (3 + 15 * sent) 1 = 0)
      ∧ ((∃ i e, i < 12 ∧ (found s k n)[st.toNat + i]? = some e ∧ e.1 = faultKey .junction .conflict) →
          (confirmed s).length ≤ 255 →
          field content (3 + 15 * sent) 1 = (confirmed s).length
          ∧ ∀ i e, (confirmed s)[i]? = some e →
              field content (4 + 15 * sent + 2 * i) 1 = e.1 / 256 % 256
              ∧ field content (5 + 15 * sent + 2 * i) 1 = e.1 % 256) := by
  intro content sent
  obtain ⟨hlen, hsent⟩ := entriesContent_head s k n st
  have hpairs := entriesContent_drop_pairs s k n st
  rw [sentFrom_length] at hsent hpairs
  refine ⟨hlen, hsent, fun i e hi he => ?_, fun hnot => ?_, fun hconf hle => ?_⟩
  · obtain ⟨rest, hdrop⟩ := entriesContent_drop_entry hi he
    have hat (j m : Nat) : field content (3 + j + 15 * i) m = field (s.fru.entryContent e.1 e.2 ++ rest) j m := by
      rw [← field_of_drop hdrop]
      congr 1
      omega
    have hentry := entryContent_fields s.fru e.1 e.2 rest
    simp only [← hat] at hentry
    exact hentry
  · have hno : pairsSent s k n st = [] := by
      rw [pairsSent, if_neg]
      rw [thas_sentFrom]
      rintro ⟨i, e, hi, he, hkey⟩
      exact hnot i e hi he hkey
    rw [hno] at hpairs
    exact field_of_drop hpairs 0 1
  · have hsome : pairsSent s k n st = (confirmed s).map Prod.fst := by rw [pairsSent, if_pos (thas_sentFrom.2 hconf)]
    rw [hsome, List.length_map] at hpairs
    refine ⟨?_, fun i e he => ?_⟩
    · have hcount := field_of_drop hpairs 0 1
      rw [Nat.add_zero] at hcount
      rw [hcount]
      simpa [field, fromLE] using toNat_countByte hle
    · obtain ⟨rest, hrest⟩ := drop_flatMap (f := pairBytes) (n := 2) (i := i) (l := (confirmed s).map Prod.fst) (e := e.1)
        (fun _ => rfl) (by simp [he]) []
      rw [List.append_nil] at hrest
      have hdrop : content.drop (3 + 15 * sent + (2 * i + 1)) = pairBytes e.1 ++ rest := by
        rw [← List.drop_drop, hpairs, List.drop_succ_cons, hrest]
      have h0 := field_of_drop hdrop 0 1
      have h1 := field_of_drop hdrop 1 1
      rw [show 4 + 15 * sent + 2 * i = 3 + 15 * sent + (2 * i + 1) + 0 by omega,
        show 5 + 15 * sent + 2 * i = 3 + 15 * sent + (2 * i + 1) + 1 by omega, h0, h1]
      simp [pairBytes, field, fromLE, toNat_byte]

/-- Settles O6: the table is read off row by row (`rowBounds?_toList`), and each field of a reply is found where the pieces of the
content before it end (`entriesContent_fields`). -/
theorem faultReadReply : Obligations.FaultReadReply := by
  refine ⟨rowBounds?_iff, fun d kind row b hb => ⟨fun hn => ?_, fun cfg hc => ?_⟩, fun s k n st hs =>
    ⟨fun hok => ?_, fun hk htop => ?_, fun hk htop hno => ?_, fun kind row b hkind hrow hb => ?_, fun hkind => ?_,
      fun kind hkind hrows => ?_, fun c form p hc hp => ?_⟩⟩
  · rw [effective_of_row hb]
    simp only [severityKey, pairKey, hn]
  · rw [effective_of_row hb]
    simp only [severityKey, pairKey, hc]
    exact boundSeverity_bounded kind b cfg
  · rw [exec_faultReadEntries hs, reqFaultEntries_taken st hok]
    exact ⟨_, _, rfl, rfl, rfl, rfl, rfl, answerHeld_replied hs.1 _ _ _, entriesContent_fields s k n st⟩
  · rw [exec_faultReadEntries hs, reqFaultEntries_refused (off := 1) st (by simp [faultEntriesChecks, firstFailing, hk, htop])]
    exact ⟨_, rfl, answer_only hs.1 _ _⟩
  · rw [exec_faultReadEntries hs,
      reqFaultEntries_refused (off := 2) st (by simp [faultEntriesChecks, firstFailing, hk, htop, hno])]
    exact ⟨_, rfl, answer_only hs.1 _ _⟩
  · have hlisted : rowListed k n = true := by simp [rowListed, hkind, hrow, hb]
    rw [exec_faultReadRows hs, reqFaultRows_taken st (by simp [faultRowsChecks, firstFailing, hkind, hlisted]),
      rowsContent_of_row hkind hrow hb]
    exact ⟨_, _, rfl, rfl, rfl, rfl, rfl, rfl, answerHeld_one_part hs.1 _ _ (by simp)⟩
  · rw [exec_faultReadRows hs, reqFaultRows_refused (off := 1) st (by simp [faultRowsChecks, firstFailing, hkind])]
    exact ⟨_, rfl, answer_only hs.1 _ _⟩
  · have hlisted : rowListed k n = false := by
      rw [rowListed, hkind]
      cases hrow : rowOfCode? n.toNat with
      | none => rfl
      | some row => simp [hrows row hrow]
    rw [exec_faultReadRows hs, reqFaultRows_refused (off := 2) st (by simp [faultRowsChecks, firstFailing, hkind, hlisted])]
    exact ⟨_, rfl, answer_only hs.1 _ _⟩
  · have hpart : exec c s = .next (s.answerFromHeld Machine.reqFaultRead [form, k, n, st] p.toNat 4) := by
      rcases hc with ⟨rfl, rfl⟩ | ⟨rfl, rfl⟩
      · rw [exec_faultReadEntries hs, reqFaultEntries_later s k n st hp]
      · rw [exec_faultReadRows hs, reqFaultRows_later s k n st hp]
    refine ⟨_, hpart, answerFromHeld_frame s _ _ _ _, answerFromHeld_empty hs.1 _ _, fun r hr hk hb => ?_⟩
    have hmatch := answerFromHeld_match hs.1 (part := p.toNat) 4 hr hk hb
    rwa [byte_toNat] at hmatch
end Sys2Proof.Machine
end

section
/-! PROOFS. What several requests share: a clear of a fault, an image asked for, and the end of a step outside RUN and CLEARING
(R130, R172, R173; log 15). -/

namespace Sys2Proof.Machine

open Sys2Proof.Claims

/-! ### Clears -/

theorem isLive_congr {s t : State} {src : Source} {kind : FaultKind}
    (h : tget? t.fru.table (faultKey src kind) = tget? s.fru.table (faultKey src kind)) :
    t.isLive src kind = s.isLive src kind := by
  unfold State.isLive State.entry?
  rw [h]

/-- Only the fault table and the notices' marks differ, and no fault has become live: what clears do. -/
structure Clears (s t : State) : Prop where
  rest : t = { s with fru := { s.fru with table := t.fru.table }, ru := { s.ru with queue := t.ru.queue, attn := t.ru.attn } }
  live : ∀ src kind, s.isLive src kind = false → t.isLive src kind = false

theorem Clears.trans {s t u : State} (h : Clears s t) (k : Clears t u) : Clears s u := by
  refine ⟨?_, fun src kind hl => k.live src kind (h.live src kind hl)⟩
  have h1 := h.rest
  have k1 := k.rest
  rw [h1] at k1
  exact k1

theorem clear_clears (s : State) (src : Source) (kind : FaultKind) : Clears s (s.clear src kind) := by
  obtain ⟨hself, hrest, hothers⟩ := clear_afterClear s src kind
  refine ⟨hrest, fun src' kind' hl => ?_⟩
  by_cases hk : faultKey src' kind' = faultKey src kind
  · rw [← hself]
    unfold State.isLive State.entry?
    rw [hk]
  · rw [isLive_congr (hothers _ hk), hl]

theorem clear_not_live (s : State) (src : Source) (kind : FaultKind) : (s.clear src kind).isLive src kind = false :=
  (clear_afterClear s src kind).1

/-! ### Images asked for -/

theorem startWrite_frame (s : State) : s.startWrite = { s with stc := s.startWrite.stc } := by
  unfold State.startWrite
  split <;> rfl

theorem queueWrite_frame (s : State) (image : Nat) : s.queueWrite image = { s with stc := (s.queueWrite image).stc } :=
  startWrite_frame _

theorem startWrite_of_flight {s : State} {f : Flight} (h : s.stc.flight = some f) : s.startWrite = s := by
  unfold State.startWrite
  split
  next h' _ => rw [h] at h'; cases h'
  next => rfl

theorem startWrite_starts {s : State} {image : Nat} {l : List Nat} (hf : s.stc.flight = none)
    (hp : s.stc.pendingImages = image :: l) :
    s.startWrite = { s with stc := { s.stc.updArea image fun a => { a with mark := .none } with
      flight := some ⟨image, s.imageContent image, s.stc.markOf image, 0⟩ } } := by
  unfold State.startWrite
  split
  next image' l' _ hp' =>
    rw [hp] at hp'
    cases hp'
    rfl
  next hn => exact absurd hp (hn _ _ hf)

theorem mem_pendingImages {c : Store} {n : Nat} : n ∈ c.pendingImages ↔ ∃ a, (n, a) ∈ c.areas ∧ a.mark ≠ .none := by
  simp [Store.pendingImages, tkeys, tkeep]

theorem pendingImages_rise {c : Store} (h : (tkeys c.areas).Pairwise (· < ·)) : c.pendingImages.Pairwise (· < ·) :=
  h.sublist (List.filter_sublist.map _)

theorem ask_ne_none (m : Mark) : m.ask ≠ .none := by cases m <;> decide

/-- The content of an image rests on the definition, the references and the slots. -/
theorem imageContent_congr {s t : State} (hd : t.dt = s.dt) (hr : t.referenceTable = s.referenceTable)
    (hs : t.sc.slots = s.sc.slots) (image : Nat) : t.imageContent image = s.imageContent image := by
  unfold State.imageContent
  rw [hd, hr, hs]

/-- The state with the mark of an image asked for, before a write starts. -/
def State.marked (s : State) (image : Nat) : State :=
  s.onStc fun c => c.updArea image fun a => { a with mark := a.mark.ask }

theorem queueWrite_eq (s : State) (image : Nat) : s.queueWrite image = (s.marked image).startWrite := rfl

@[simp] theorem updArea_areas (c : Store) (image : Nat) (f : Area → Area) : (c.updArea image f).areas = tupd c.areas image f :=
  rfl

theorem marked_areas (s : State) (image : Nat) :
    (s.marked image).stc.areas = tupd s.stc.areas image fun a => { a with mark := a.mark.ask } := rfl

/-- An image asked for waits behind the write in flight, or the lowest pending image is taken up (R172, R173). -/
theorem queueWrite_asked {s : State} {image : Nat} {a : Area} (ha : tget? s.stc.areas image = some a)
    (hrise : (tkeys s.stc.areas).Pairwise (· < ·)) : WriteAsked s (s.queueWrite image) image := by
  have hmark : tget? (s.marked image).stc.areas image = some { a with mark := a.mark.ask } := by
    rw [marked_areas, tget?_tupd_self, ha]
    rfl
  have hask : (s.marked image).stc.markOf image ≠ .none := by
    rw [Store.markOf, hmark]
    exact ask_ne_none a.mark
  rw [queueWrite_eq]
  refine ⟨fun f hf => ?_, fun hf => ?_⟩
  · rw [startWrite_of_flight (s := s.marked image) (f := f) hf]
    exact ⟨hf, hask⟩
  · have hmem : image ∈ (s.marked image).stc.pendingImages :=
      mem_pendingImages.2 ⟨_, mem_of_tget? hmark, ask_ne_none a.mark⟩
    have hsorted : (s.marked image).stc.pendingImages.Pairwise (· < ·) :=
      pendingImages_rise (by rwa [marked_areas, tkeys_tupd])
    obtain ⟨first, l, hp⟩ := List.exists_cons_of_ne_nil (List.ne_nil_of_mem hmem)
    rw [hp] at hmem hsorted
    have hle : first ≤ image := (List.mem_cons.1 hmem).elim (fun h => h.ge) fun h =>
      ((List.pairwise_cons.1 hsorted).1 image h).le
    rw [startWrite_starts (s := s.marked image) hf hp]
    refine ⟨_, rfl, rfl, hle, ?_, rfl⟩
    by_cases hfirst : first = image
    · exact .inl hfirst
    · right
      simpa only [Store.markOf, updArea_areas, tget?_tupd_of_ne _ _ (Ne.symm hfirst)] using hask

/-- What is asked for stays asked for where the rest of the step touches neither the store nor what its images hold. -/
theorem writeAsked_of_same {s t u : State} {image : Nat} (h : WriteAsked s t image) (hs : u.stc = t.stc)
    (hc : ∀ n, u.imageContent n = t.imageContent n) : WriteAsked s u image := by
  unfold WriteAsked at *
  simpa only [hs, hc] using h

/-- What is asked for in a state with the same store as an earlier one is asked for from there. -/
theorem writeAsked_of_start {s s' t : State} {image : Nat} (h : WriteAsked s' t image) (hs : s'.stc = s.stc) :
    WriteAsked s t image := by
  unfold WriteAsked at *
  rwa [hs] at h

theorem State.Shaped.areas_rise {s : State} (h : s.Shaped) : (tkeys s.stc.areas).Pairwise (· < ·) := by
  rw [h.2.1]
  exact numbers_rise 10

theorem exists_of_mem_tkeys {α : Type} {t : Table α} {k : Nat} (h : k ∈ tkeys t) : ∃ v, tget? t k = some v := by
  obtain ⟨e, he, hk⟩ := List.mem_map.1 h
  exact Option.isSome_iff_exists.1 (thas_iff.2 ⟨e, he, hk⟩)

theorem State.Shaped.area {s : State} (h : s.Shaped) {n : Nat} (h1 : 1 ≤ n) (h10 : n ≤ 10) : ∃ a, tget? s.stc.areas n = some a :=
  exists_of_mem_tkeys (by rw [h.2.1]; exact (mem_numbers 10 n).2 ⟨h1, h10⟩)

/-! ### The end of a step -/

/-- Outside CLEARING no all-red time starts. -/
theorem checkAtRest_of_ne_clearing {s : State} (h : s.fru.mode ≠ .clearing) : s.checkAtRest = s := by
  simp [State.checkAtRest, State.when, h]

/-- Outside RUN and CLEARING the end of a step only brings the commands up to date. -/
theorem finish_quiet {s : State} (h : s.fru.mode ≠ .run) (h' : s.fru.mode ≠ .clearing) : s.finish = s.refreshCommands := by
  rw [State.finish, checkAtRest_of_ne_clearing h', checkEstablished_of_ne_run h, scDecide_of_ne_run h,
    checkEstablished_of_ne_run h]

/-- The LEARNED entries do not rest on the command manners. -/
theorem referenceTable_of_manners {s t : State} {f : Nat → CircuitRun → Bool} (hv : t.dt.valid = s.dt.valid)
    (hk : t.pu.kept = s.pu.kept) (hc : t.pu.circuits = tmap s.pu.circuits fun c r => { r with flashing := f c r }) :
    t.referenceTable = s.referenceTable := by
  rw [State.referenceTable, State.referenceTable, hv, hk, hc]
  simp only [tmap, List.filterMap_map, Function.comp_def]

/-- An image asked for in DARK or FLASH at the end of a step, which then only brings the commands up to date. -/
theorem queueWrite_finish_quiet {u : State} (hm : u.fru.mode = .dark ∨ u.fru.mode = .flash) (image : Nat) :
    let t := (u.queueWrite image).finish
    t = { u with ob := t.ob, pu := t.pu, csu := t.csu, stc := t.stc } ∧ t.stc = (u.queueWrite image).stc
      ∧ t.pu.kept = u.pu.kept ∧ t.pu.circuits = tmap u.pu.circuits fun c r => { r with flashing := u.isFlashing c } := by
  have hw := queueWrite_frame u image
  have hmode : (u.queueWrite image).fru.mode = u.fru.mode := by rw [hw]
  rw [finish_quiet (by rw [hmode]; rcases hm with h | h <;> rw [h] <;> decide)
    (by rw [hmode]; rcases hm with h | h <;> rw [h] <;> decide)]
  rw [hw]
  exact ⟨rfl, rfl, rfl, rfl⟩

theorem queueWrite_finish_asked {u : State} (hm : u.fru.mode = .dark ∨ u.fru.mode = .flash) {image : Nat} {a : Area}
    (ha : tget? u.stc.areas image = some a) (hrise : (tkeys u.stc.areas).Pairwise (· < ·)) :
    WriteAsked u (u.queueWrite image).finish image := by
  have hqw := queueWrite_frame u image
  obtain ⟨hrest, hstc, hkept, hcirc⟩ := queueWrite_finish_quiet hm image
  generalize (u.queueWrite image).finish = t at *
  refine writeAsked_of_same (queueWrite_asked ha hrise) hstc fun n =>
    imageContent_congr ?_ (referenceTable_of_manners (f := fun c _ => u.isFlashing c) ?_ ?_ ?_) ?_ n
  · rw [hrest, hqw]
  · rw [hrest, hqw]
  · rw [hkept, hqw]
  · rw [hqw]; exact hcirc
  · rw [hrest, hqw]

end Sys2Proof.Machine
end

section
/-! PROOFS. SUBSTITUTE: the refusals, and a circuit moved to a channel (R19, R20, R81). -/

namespace Sys2Proof.Machine

open Sys2Proof.Claims

theorem exec_substitute {s : State} (h : Hears s) (c ch : Byte) :
    exec (.substitute c ch) s = .next (s.reqSubstitute c ch) :=
  congrArg Host.Outcome.next (handed_of_hears h _)

theorem takesCommit_iff {m : Mode} : m.takesCommit = true ↔ m = .dark ∨ m = .flash := by
  cases m <;> simp [Mode.takesCommit]

theorem channelFree_iff {s : State} {ch : Nat} :
    s.channelFree ch = true ↔ 1 ≤ ch ∧ ch ≤ 104 ∧ s.dt.live.mapped? ch = none := by
  rw [State.channelFree, show Config.channels = 104 from rfl]
  simp [and_assoc]

/-! ### The blocks of a substitution taken, in three stretches -/

/-- The record moved, the reply, and the channel's watch fault cleared. -/
def State.movedCircuit (s : State) (c ch : Nat) : State :=
  let s := s.onDt fun t => t.moveCircuit c ch
  (s.answer Machine.reqSubstitute (okBody (le 4 s.dt.identity.toNat))).clear (.channel ch) .unmappedCurrent

/-- The watches of both channels and the circuit's record anew. -/
def State.restartedCircuit (s : State) (c : Nat) (rec : CircuitRec) (ch : Nat) (on : Bool) : State :=
  (s.onOb fun b => (b.resetWatch rec.channel).resetWatch ch).onPu fun p =>
    { p with circuits := tupd p.circuits c (CircuitRun.substituted rec on) }

/-- The circuit's lamp faults cleared. -/
def State.clearLampFaults (s : State) (c : Nat) : State :=
  (((s.clear (.circuit c) .lampPartial).clear (.circuit c) .lampOut).clear (.circuit c) .lampOver).clear (.circuit c) .offCurrent

/-- A substitution taken, before its image is asked for. -/
def State.substituteBlocks (s : State) (c : Nat) (rec : CircuitRec) (ch : Nat) : State :=
  (((s.movedCircuit c ch).restartedCircuit c rec ch (s.channelIsOn ch)).clearLampFaults c).onCsu fun u => u.substitute c

theorem takeSubstitute_eq (s : State) (c : Nat) (rec : CircuitRec) (ch : Nat) :
    s.takeSubstitute c rec ch = ((s.substituteBlocks c rec ch).queueWrite imageDefinition).finish := rfl

/-- The lamp faults of the circuit are not live once cleared, nor does their clearing make another live. -/
theorem clearLampFaults_clears (s : State) (c : Nat) :
    Clears s (s.clearLampFaults c)
      ∧ (s.clearLampFaults c).isLive (.circuit c) .lampPartial = false
      ∧ (s.clearLampFaults c).isLive (.circuit c) .lampOut = false
      ∧ (s.clearLampFaults c).isLive (.circuit c) .lampOver = false
      ∧ (s.clearLampFaults c).isLive (.circuit c) .offCurrent = false := by
  have h1 := clear_clears s (.circuit c) .lampPartial
  have h2 := clear_clears (s.clear (.circuit c) .lampPartial) (.circuit c) .lampOut
  have h3 := clear_clears ((s.clear (.circuit c) .lampPartial).clear (.circuit c) .lampOut) (.circuit c) .lampOver
  have h4 := clear_clears (((s.clear (.circuit c) .lampPartial).clear (.circuit c) .lampOut).clear (.circuit c) .lampOver)
    (.circuit c) .offCurrent
  exact ⟨((h1.trans h2).trans h3).trans h4,
    ((h2.trans h3).trans h4).live _ _ (clear_not_live _ _ _),
    (h3.trans h4).live _ _ (clear_not_live _ _ _), h4.live _ _ (clear_not_live _ _ _), clear_not_live _ _ _⟩

/-- The state of a substitution taken, before its image is asked for: what each block holds. -/
structure Substituted (s u : State) (c : Nat) (rec : CircuitRec) (ch : Nat) : Prop where
  rest : u = { s with li := u.li, dt := u.dt, ob := u.ob, pu := u.pu, csu := u.csu, fru := u.fru, ru := u.ru }
  dt : u.dt = s.dt.moveCircuit c ch
  li : u.li = { s.li with reply := s.li.replyTo Machine.reqSubstitute (okBody (le 4 u.dt.identity.toNat)), held := none }
  circuits : u.pu.circuits = tupd s.pu.circuits c (CircuitRun.substituted rec (s.channelIsOn ch))
  fru : u.fru = { s.fru with table := u.fru.table }
  lampPartial : u.isLive (.circuit c) .lampPartial = false
  lampOut : u.isLive (.circuit c) .lampOut = false
  lampOver : u.isLive (.circuit c) .lampOver = false
  offCurrent : u.isLive (.circuit c) .offCurrent = false
  unmapped : u.isLive (.channel ch) .unmappedCurrent = false

theorem substituted_blocks (s : State) (c : Nat) (rec : CircuitRec) (ch : Nat) :
    Substituted s (s.substituteBlocks c rec ch) c rec ch := by
  unfold State.substituteBlocks
  let a := (s.onDt fun t => t.moveCircuit c ch)
  let b := a.answer Machine.reqSubstitute (okBody (le 4 a.dt.identity.toNat))
  have hmoved : Clears b (s.movedCircuit c ch) := clear_clears b _ _
  have hunmapped : (s.movedCircuit c ch).isLive (.channel ch) .unmappedCurrent = false := clear_not_live b _ _
  obtain ⟨hlamps, h1, h2, h3, h4⟩ :=
    clearLampFaults_clears ((s.movedCircuit c ch).restartedCircuit c rec ch (s.channelIsOn ch)) c
  have hm := hmoved.rest
  have hl := hlamps.rest
  generalize (s.movedCircuit c ch) = m at *
  generalize ((m.restartedCircuit c rec ch (s.channelIsOn ch)).clearLampFaults c) = v at *
  have hlive := hlamps.live (.channel ch) .unmappedCurrent hunmapped
  rw [hm] at hl
  refine ⟨?_, ?_, ?_, ?_, ?_, h1, h2, h3, h4, hlive⟩ <;> rw [hl] <;> rfl

theorem moveCircuit_circuitRec (t : Definitions) {c ch k : Nat} :
    tget? (t.moveCircuit c ch).live.circuits k
      = if k = c then (tget? t.live.circuits c).map fun r => { r with channel := ch } else tget? t.live.circuits k := by
  have hc : (t.moveCircuit c ch).live.circuits = tupd t.live.circuits c fun r => { r with channel := ch } := rfl
  rw [hc]
  split
  next h => rw [h, tget?_tupd_self]
  next h => rw [tget?_tupd_of_ne _ _ h]

/-- A substitution taken: the blocks of it (`Substituted`), then the image asked for and the end of the step, which in DARK and
FLASH only brings the commands up to date. -/
theorem takeSubstitute_moves {s : State} {c ch : Nat} {rec : CircuitRec} {r : CircuitRun} (hs : Addressed s) (hshape : s.Shaped)
    (hmode : s.fru.mode = .dark ∨ s.fru.mode = .flash) (hrec : s.circuitRec? c = some rec)
    (hr : tget? s.pu.circuits c = some r) :
    let t := s.takeSubstitute c rec ch
    Answered s t 0x43 (0#8 :: le 4 t.dt.identity.toNat)
      ∧ t = { s with li := t.li, dt := t.dt, ob := t.ob, pu := t.pu, csu := t.csu, fru := t.fru, ru := t.ru, stc := t.stc }
      ∧ t.dt = { s.dt with
          live := { s.dt.live with circuits := t.dt.live.circuits }, identity := t.dt.live.computeIdentity }
      ∧ t.circuitRec? c = some { rec with channel := ch }
      ∧ (∀ k, k ≠ c → t.circuitRec? k = s.circuitRec? k)
      ∧ (∃ q, tget? t.pu.circuits c = some q ∧ q.confirmed = .unproven ∧ q.reference = r.reference
          ∧ q.recorded = r.recorded ∧ q.episodes = r.episodes ∧ q.counter = 0)
      ∧ t.isLive (.circuit c) .lampPartial = false ∧ t.isLive (.circuit c) .lampOut = false
      ∧ t.isLive (.circuit c) .lampOver = false ∧ t.isLive (.circuit c) .offCurrent = false
      ∧ t.isLive (.channel ch) .unmappedCurrent = false
      ∧ t.fru = { s.fru with table := t.fru.table } ∧ WriteAsked s t 1 := by
  dsimp only
  rw [takeSubstitute_eq]
  have hS := substituted_blocks s c rec ch
  generalize s.substituteBlocks c rec ch = u at *
  have hmu : u.fru.mode = .dark ∨ u.fru.mode = .flash := by rw [hS.fru]; exact hmode
  have hstc : u.stc = s.stc := by rw [hS.rest]
  obtain ⟨a, ha⟩ := hshape.area (n := imageDefinition) (by decide) (by decide)
  have hasked : WriteAsked s (u.queueWrite imageDefinition).finish imageDefinition :=
    writeAsked_of_start (queueWrite_finish_asked hmu (by rw [hstc]; exact ha) (by rw [hstc]; exact hshape.areas_rise)) hstc
  obtain ⟨hrest, -, -, hcirc⟩ := queueWrite_finish_quiet hmu imageDefinition
  generalize (u.queueWrite imageDefinition).finish = t at *
  have hli : t.li = u.li := by rw [hrest]
  have hdtu : t.dt = u.dt := by rw [hrest]
  have hfru : t.fru = u.fru := by rw [hrest]
  have hru : t.ru = u.ru := by rw [hrest]
  have hdt : t.dt = s.dt.moveCircuit c ch := hdtu.trans hS.dt
  have hlive (src : Source) (kind : FaultKind) : t.isLive src kind = u.isLive src kind := isLive_congr (by rw [hfru])
  have hmoved (k : Nat) := moveCircuit_circuitRec s.dt (c := c) (ch := ch) (k := k)
  rw [← hdt] at hmoved
  refine ⟨⟨replied_of_replyTo hs ?_ ?_, ?_⟩, ?_, ?_, ?_, fun k hk => ?_, ?_, ?_, ?_, ?_, ?_, ?_, ?_, hasked⟩
  · rw [hli, hS.li]
  · rw [hli, hS.li, hdt, hS.dt]
    rfl
  · rw [hli, hS.li]
  · have h := hS.rest
    rw [h] at hrest
    rw [hli, hdtu, hfru, hru]
    exact hrest
  · rw [hdt]; rfl
  · rw [State.circuitRec?, hmoved, if_pos rfl]
    exact congrArg _ hrec
  · rw [State.circuitRec?, hmoved, if_neg hk]
    rfl
  · refine ⟨{ CircuitRun.substituted rec (s.channelIsOn ch) r with flashing := u.isFlashing c }, ?_, rfl, rfl, rfl, rfl, rfl⟩
    rw [hcirc, tget?_tmap, hS.circuits, tget?_tupd_self, hr]
    rfl
  · rw [hlive, hS.lampPartial]
  · rw [hlive, hS.lampOut]
  · rw [hlive, hS.lampOver]
  · rw [hlive, hS.offCurrent]
  · rw [hlive, hS.unmapped]
  · rw [hfru, hS.fru]

/-- Settles O20: the refusals in turn, and `takeSubstitute_moves`. -/
theorem substituteMovesCircuit : Obligations.SubstituteMovesCircuit := by
  intro s c ch hs
  rw [exec_substitute hs]
  refine ⟨fun hd hf => ?_, fun hmode => ?_⟩
  · have hm : s.fru.mode.takesCommit = false := by
      rw [Bool.eq_false_iff, Ne, takesCommit_iff]
      tauto
    exact ⟨_, rfl, by simp only [State.reqSubstitute, hm]; exact answer_only hs.1 _ _⟩
  have hm : s.fru.mode.takesCommit = true := takesCommit_iff.2 hmode
  refine ⟨fun hw => ?_, fun hw hrec => ?_, fun rec hw hrec hch => ?_, fun rec r hshape hw hrec hr h1 h104 hfree => ?_⟩
  · exact ⟨_, rfl, by simp only [State.reqSubstitute, hm, imageDefinition, hw]; exact answer_only hs.1 _ _⟩
  · exact ⟨_, rfl, by simp only [State.reqSubstitute, hm, imageDefinition, hw, hrec]; exact answer_only hs.1 _ _⟩
  · have hn : s.channelFree ch.toNat = false := by
      rw [Bool.eq_false_iff, Ne, channelFree_iff]
      rintro ⟨hpos, hle, hunmapped⟩
      rw [hunmapped] at hch
      rcases hch with h | h | h
      · omega
      · omega
      · cases h
    exact ⟨_, rfl, by simp only [State.reqSubstitute, hm, imageDefinition, hw, hrec, hn]; exact answer_only hs.1 _ _⟩
  · have hyes : s.channelFree ch.toNat = true := channelFree_iff.2 ⟨h1, h104, hfree⟩
    have hreq : s.reqSubstitute c ch = s.takeSubstitute c.toNat rec ch.toNat := by
      simp [State.reqSubstitute, hm, imageDefinition, hw, hrec, hyes]
    rw [hreq]
    exact ⟨_, rfl, takeSubstitute_moves hs.1 hshape hmode hrec hr⟩

end Sys2Proof.Machine
end

section
/-! PROOFS. Greens that end and demands that latch while no capture is open count nothing, and what the entry to DARK does then
(R38, R53, R161, R167). -/

namespace Sys2Proof.Machine

open Sys2Proof.Claims

/-! ### No open capture, nothing counted -/

/-- A service record that counts no green: no capture is open, and the greens counted stand. -/
def Uncounted (v w : GroupService) : Prop :=
  v.capture = none → w.capture = none ∧ w.greens = v.greens ∧ w.greenDs = v.greenDs ∧ w.served = v.served

theorem Uncounted.refl (v : GroupService) : Uncounted v v := fun h => ⟨h, rfl, rfl, rfl⟩

theorem Uncounted.trans {v w x : GroupService} (h : Uncounted v w) (k : Uncounted w x) : Uncounted v x := fun hv => by
  obtain ⟨hc, h1, h2, h3⟩ := h hv
  obtain ⟨kc, k1, k2, k3⟩ := k hc
  exact ⟨kc, k1.trans h1, k2.trans h2, k3.trans h3⟩

theorem uncounted_greenEnd (cause : EndCause) (now : Nat) (v : GroupService) : Uncounted v (v.greenEnd cause now) := by
  intro h
  simp [GroupService.greenEnd, h]

theorem uncounted_latchWait (now : Nat) (v : GroupService) : Uncounted v (v.latchWait now) := fun h => ⟨h, rfl, rfl, rfl⟩

/-- Only the SC's running state, the groups and service records differ, and no service record counts a green. -/
structure Idles (s t : State) : Prop extends Moves s t where
  uncounted : ∀ g v, tget? s.ru.groups g = some v → ∃ w, tget? t.ru.groups g = some w ∧ Uncounted v w

theorem Idles.refl (s : State) : Idles s s := ⟨Moves.refl s, fun _ v h => ⟨v, h, Uncounted.refl v⟩⟩

theorem Idles.trans {s t u : State} (h : Idles s t) (k : Idles t u) : Idles s u := by
  refine ⟨h.toMoves.trans k.toMoves, fun g v hv => ?_⟩
  obtain ⟨w, hw, hvw⟩ := h.uncounted g v hv
  obtain ⟨x, hx, hwx⟩ := k.uncounted g w hw
  exact ⟨x, hx, hvw.trans hwx⟩

theorem Idles.of_ru {s t : State} (h : Moves s t) (hru : t.ru = s.ru) : Idles s t :=
  ⟨h, fun _ v hv => ⟨v, by rw [hru]; exact hv, Uncounted.refl v⟩⟩

theorem Idles.onSc (s : State) (f : Stages → Stages) (h1 : (f s.sc).slots = s.sc.slots)
    (h2 : (f s.sc).staging = s.sc.staging) : Idles s (s.onSc f) := .of_ru (Moves.onSc s f h1 h2) rfl

theorem Idles.onGs (s : State) (f : Sequencer → Sequencer) : Idles s (s.onGs f) := .of_ru (Moves.onGs s f) rfl

theorem Idles.updGroup (s : State) (g : Nat) {f : GroupService → GroupService} (hf : ∀ v, Uncounted v (f v)) :
    Idles s (s.onRu fun r => r.updGroup g f) := by
  refine ⟨Moves.updGroup s g f, fun k v hv => ?_⟩
  by_cases hk : k = g
  · subst hk
    exact ⟨f v, by simp [Recording.updGroup, hv], hf v⟩
  · exact ⟨v, by simp [Recording.updGroup, tget?_tupd_of_ne _ _ hk, hv], Uncounted.refl v⟩

theorem Idles.when {s : State} (c : Bool) {f : State → State} (h : Idles s (f s)) : Idles s (s.when c f) := by
  unfold State.when
  split
  · exact h
  · exact Idles.refl s

theorem Idles.forEach (l : List Nat) (f : Nat → State → State) (h : ∀ n s, Idles s (f n s)) (s : State) :
    Idles s (Machine.forEach l f s) := by
  unfold Machine.forEach
  induction l generalizing s with
  | nil => exact Idles.refl s
  | cons n l ih => exact (h n s).trans (ih (f n s))

theorem idles_addDemand (s : State) (o : Origin) (g : Nat) : Idles s (s.addDemand o g) := by
  unfold State.addDemand
  split
  · exact Idles.refl s
  · split
    · exact Idles.onSc s _ rfl rfl
    · exact (Idles.onSc s _ rfl rfl).trans (Idles.updGroup _ g (uncounted_latchWait _))

theorem idles_scGreenEnd (s : State) (g : Nat) : Idles s (s.scGreenEnd g) := by
  unfold State.scGreenEnd
  dsimp only
  refine Idles.trans ?_ (Idles.when _ (idles_addDemand _ .detector g))
  exact (Idles.onSc s _ rfl rfl).trans (Idles.when _ (idles_addDemand _ .recalled g))

theorem idles_endGreen (s : State) (cause : EndCause) (next : Aspect) (g : Nat) : Idles s (s.endGreen cause next g) :=
  ((Idles.onGs s _).trans (Idles.updGroup _ g (uncounted_greenEnd _ _))).trans (idles_scGreenEnd _ g)

theorem idles_cutGroup (cause : EndCause) (s : State) (g : Nat) : Idles s (s.cutGroup cause g) := by
  unfold State.cutGroup
  split
  · exact idles_endGreen _ _ _ g
  · exact Idles.onGs s _

theorem idles_gsEnter_dark (s : State) (old : Mode) : Idles s (s.gsEnter old .dark) := by
  unfold State.gsEnter
  dsimp only
  split
  · exact Idles.refl s
  · exact (Idles.onGs s _).trans (Idles.forEach _ _ (fun g s => idles_cutGroup .dark s g) _)

/-! ### The entry to DARK -/

/-- The junction DARK by a change of mode and an open order: what stands, and the notice of a change. -/
structure Darkened (s t : State) : Prop where
  rest : t = { s with sc := t.sc, gs := t.gs, ru := t.ru, fru := t.fru, spc := t.spc }
  spc : t.spc = s.spc.orderOpen
  mode : t.fru.mode = .dark
  table : t.fru.table = s.fru.table
  lockout : t.fru.lockout = s.fru.lockout
  start : s.fru.startRequest = false → t.fru.startRequest = false
  ru : t.ru = { (if s.fru.mode = .dark then s.ru else s.ru.noticeMode s.uptime .dark) with groups := t.ru.groups }
  slots : t.sc.slots = s.sc.slots
  staging : t.sc.staging = s.sc.staging
  uncounted : ∀ g v, tget? s.ru.groups g = some v → ∃ w, tget? t.ru.groups g = some w ∧ Uncounted v w

theorem noticeMode_groups (r : Recording) (t : Nat) (m : Mode) : (r.noticeMode t m).groups = r.groups := by
  unfold Recording.noticeMode Recording.addNotice
  split
  · rfl
  · split <;> rfl

/-- A change of mode to DARK, in the two stretches either side of the open order. -/
theorem enterMode_dark_idles {s : State} (h : s.fru.mode ≠ .dark) :
    ∃ u, Idles ((s.onFru fun f => f.setMode .dark).onRu fun r => r.noticeMode s.uptime .dark) u
      ∧ Idles (u.onSpc Supply.orderOpen) (s.enterMode .dark) := by
  refine ⟨(((s.onFru fun f => f.setMode .dark).onRu fun r => r.noticeMode s.uptime .dark).when (decide (s.fru.mode = .run))
    fun s => s.onSc Stages.clearRun).gsEnter s.fru.mode .dark, ?_, ?_⟩
  · exact Idles.trans (Idles.when _ (Idles.onSc _ Stages.clearRun rfl rfl)) (idles_gsEnter_dark _ s.fru.mode)
  · unfold State.enterMode
    rw [if_neg h]
    exact Idles.when _ (Idles.onSc _ _ (takePending_slots _) (takePending_staging _))

theorem darkened (s : State) : Darkened s ((s.enterMode .dark).onSpc Supply.orderOpen) := by
  have hE := entered s .dark
  by_cases h : s.fru.mode = .dark
  · rw [hE.same h]
    refine ⟨rfl, rfl, h, rfl, rfl, id, ?_, rfl, rfl, fun _ v hv => ⟨v, hv, Uncounted.refl v⟩⟩
    rw [if_pos h]
    rfl
  · obtain ⟨u, hbefore, hafter⟩ := enterMode_dark_idles h
    obtain ⟨hspc, hstart⟩ := hE.dark h rfl
    have hru := hafter.ru
    have hru' := hbefore.ru
    have hgroups : ((s.onFru fun f => f.setMode .dark).onRu fun r => r.noticeMode s.uptime .dark).ru.groups = s.ru.groups :=
      noticeMode_groups _ _ _
    refine ⟨?_, ?_, hE.mode, hE.table, hE.lockout, fun _ => hstart, ?_, hE.shifts.slots, hE.shifts.staging, fun g v hv => ?_⟩
    · have hrest := hE.shifts.rest
      generalize s.enterMode .dark = t at *
      rw [hrest]
      rfl
    · show (s.enterMode .dark).spc.orderOpen = _
      rw [hspc, orderOpen_idem]
    · rw [if_neg h]
      show (s.enterMode .dark).ru = _
      rw [hru]
      show ({ u.ru with groups := _ } : Recording) = _
      rw [hru']
      rfl
    · obtain ⟨w, hw, hvw⟩ := hbefore.uncounted g v (by rw [hgroups]; exact hv)
      obtain ⟨x, hx, hwx⟩ := hafter.uncounted g w hw
      exact ⟨x, hx, hvw.trans hwx⟩

end Sys2Proof.Machine
end

section
/-! PROOFS. SOFT_RESET: replied first and acting after its reply, and what it keeps (R138, R143, R175, R185; log 40). -/

namespace Sys2Proof.Machine

open Sys2Proof.Claims

theorem exec_softReset {s : State} (h : Hears s) : exec .softReset s = .next s.reqSoftReset :=
  congrArg Host.Outcome.next (handed_of_hears h _)

theorem exec_replySent (s : State) :
    exec .replySent s = .next { s with li := { s.li with
      reply := none, softReset := if s.li.softReset = .replying then .owed else s.li.softReset } } := rfl

theorem exec_softResetAction_owed {s : State} (h : s.li.softReset = .owed) : exec .softResetAction s = .next s.softReset := by
  show Host.Outcome.next (s.when (decide (s.li.softReset = .owed)) State.softReset) = _
  rw [h]
  rfl

theorem exec_softResetAction_not_owed {s : State} (h : s.li.softReset ≠ .owed) : exec .softResetAction s = .next s := by
  show Host.Outcome.next (s.when (decide (s.li.softReset = .owed)) State.softReset) = _
  rw [decide_eq_false h]
  rfl

/-! ### A raise in a junction that is DARK with no lockout -/

theorem severity_code_injective {a b : Severity} (h : a.code = b.code) : a = b := by
  cases a <;> cases b <;> simp_all [Severity.code]

/-- A row whose default, floor and maximum are one has that severity, whatever is configured (R133). -/
theorem effective_fixed {kind : FaultKind} {row : RowSel} {v : Severity} (d : DefSet)
    (h : rowBounds? kind row = some ⟨v, v, v⟩) : d.effective kind row = v := by
  rw [effective_of_row h]
  split
  · rfl
  · simp only [boundSeverity]
    generalize (if _ = Severity.lockout && !kind.circuitRow then Severity.flash else _) = x
    split
    · rfl
    · split
      · rfl
      · exact severity_code_injective (by omega)

/-- The recomputation of an empty lockout set that stays empty changes nothing. -/
theorem recomputeLockout_idle {s : State} (hl : s.fru.lockout = []) (hn : s.lockoutNow = [])
    (ha : tget? s.fru.table (faultKey .junction .allLocked) = none) : s.recomputeLockout = s := by
  have hr : s.relock = s := by
    simp only [State.relock, hl, hn, List.filter_nil, forEach, List.foldl_nil, State.onFru]
    rw [← hl]
  have hno : s.allLocked = false := by
    rw [State.allLocked, hl]
    cases s.dt.live.groups <;> simp [tkeys]
  rw [State.recomputeLockout, hr, State.judgeAllLocked, hno]
  simp only [State.clear, ha, Bool.false_eq_true, if_false]

/-- No group is locked out by a table without circuit entries. -/
theorem lockoutNow_of_junction {s : State} (h : ∀ e ∈ s.fru.table, keySourceCode e.1 = 0) : s.lockoutNow = [] := by
  have hno (c : Nat) : s.circuitLocks c = false := by
    rw [State.circuitLocks, List.any_eq_false]
    intro e he
    simp [h e he]
  simp [State.lockoutNow, hno]

/-- A junction DARK with an empty lockout set, and a fault table with junction entries alone and none of ALL_LOCKED. -/
structure DarkUnlocked (s : State) : Prop where
  mode : s.fru.mode = .dark
  lockout : s.fru.lockout = []
  junction : ∀ e ∈ s.fru.table, keySourceCode e.1 = 0
  allLocked : tget? s.fru.table (faultKey .junction .allLocked) = none

/-- In such a junction the first raise of a junction fault with a fixed severity adds its entry and its notice, and nothing
else. -/
theorem raise_of_darkUnlocked {s : State} (h : DarkUnlocked s) {kind : FaultKind} {v : Severity}
    (hrow : rowBounds? kind .none = some ⟨v, v, v⟩) (hv : v ≠ .ignore) (hm : v.modeAfter .dark = .dark)
    (hk : kind ≠ .allLocked) (hnone : tget? s.fru.table (faultKey .junction kind) = none) :
    s.raise .junction kind = { s with
        fru := { s.fru with
          table := tput s.fru.table (faultKey .junction kind) ⟨true, true, s.uptime, s.uptime, .none, v, 0⟩ }
        ru := s.ru.noticeCreated (faultKey .junction kind) s.uptime 0 }
      ∧ DarkUnlocked (s.raise .junction kind) := by
  have hkey : faultKey .junction .allLocked ≠ faultKey .junction kind := by
    intro he
    refine hk ?_
    have := kindOfCode?_code kind
    have hc : kind.code = FaultKind.allLocked.code := by simp only [faultKey, Source.code, Source.number] at he; omega
    rw [hc, kindOfCode?_code] at this
    exact (Option.some.inj this).symm
  have hentry : s.raiseEntry .junction kind .none 0 = { s with
      fru := { s.fru with
        table := tput s.fru.table (faultKey .junction kind) ⟨true, true, s.uptime, s.uptime, .none, v, 0⟩ }
      ru := s.ru.noticeCreated (faultKey .junction kind) s.uptime 0 } := by
    simp only [State.raiseEntry, effective_fixed s.dt.live hrow, hv, hnone, if_false]
    rw [State.severityAction, (entered _ _).same]
    · rfl
    · show s.fru.mode = v.modeAfter s.fru.mode
      rw [h.mode, hm]
  have hdark : DarkUnlocked (s.raiseEntry .junction kind .none 0) := by
    rw [hentry]
    refine ⟨h.mode, h.lockout, fun e he => ?_, ?_⟩
    · rcases mem_tput he with rfl | he
      · have hc : kind.code < 65536 := by cases kind <;> decide
        simp only [keySourceCode, faultKey, Source.code, Source.number]
        omega
      · exact h.junction e he
    · rw [tget?_tput_of_ne _ _ hkey, h.allLocked]
  have hraise : s.raise .junction kind = s.raiseEntry .junction kind .none 0 :=
    recomputeLockout_idle hdark.lockout (lockoutNow_of_junction hdark.junction) hdark.allLocked
  exact ⟨by rw [hraise, hentry], by rw [hraise]; exact hdark⟩

/-! ### Demand latched -/

/-- Only the demand set and the waits of service records differ. -/
structure Latches (s t : State) : Prop where
  rest : t = { s with sc := { s.sc with demand := t.sc.demand }, ru := { s.ru with groups := t.ru.groups } }
  uncounted : ∀ g v, tget? s.ru.groups g = some v → ∃ w, tget? t.ru.groups g = some w ∧ Uncounted v w

theorem Latches.refl (s : State) : Latches s s := ⟨rfl, fun _ v h => ⟨v, h, Uncounted.refl v⟩⟩

theorem Latches.trans {s t u : State} (h : Latches s t) (k : Latches t u) : Latches s u := by
  refine ⟨?_, fun g v hv => ?_⟩
  · have h1 := h.rest
    have k1 := k.rest
    rw [h1] at k1
    exact k1
  · obtain ⟨w, hw, hvw⟩ := h.uncounted g v hv
    obtain ⟨x, hx, hwx⟩ := k.uncounted g w hw
    exact ⟨x, hx, hvw.trans hwx⟩

theorem Latches.when {s : State} (c : Bool) {f : State → State} (h : Latches s (f s)) : Latches s (s.when c f) := by
  unfold State.when
  split
  · exact h
  · exact Latches.refl s

theorem Latches.forEach (l : List Nat) (f : Nat → State → State) (h : ∀ n s, Latches s (f n s)) (s : State) :
    Latches s (Machine.forEach l f s) := by
  unfold Machine.forEach
  induction l generalizing s with
  | nil => exact Latches.refl s
  | cons n l ih => exact (h n s).trans (ih (f n s))

theorem latches_addDemand (s : State) (o : Origin) (g : Nat) : Latches s (s.addDemand o g) := by
  have hu := (idles_addDemand s o g).uncounted
  refine ⟨?_, hu⟩
  unfold State.addDemand
  split
  · rfl
  · split <;> rfl

theorem latches_restartDemand (s : State) : Latches s s.restartDemand :=
  (show Latches s (s.onSc fun c => { c with demand := [] }) from ⟨rfl, (Latches.refl s).uncounted⟩).trans
    (Latches.forEach _ _ (fun g _ => Latches.when _ (latches_addDemand _ .recalled g)) _)

/-! ### The link silence timer and auto-start -/

theorem silenceStarts_congr {s t : State} (hdt : t.dt = s.dt) (hs : t.li.silence = s.li.silence)
    (hr : t.li.remaining = s.li.remaining) (h : SilenceStarts s) : SilenceStarts t := by
  unfold SilenceStarts at *
  rwa [hdt, hs, hr]

theorem startSilence_starts (s : State) : SilenceStarts s.startSilence := by
  refine ⟨fun j hv hj hn => ?_, fun h => ?_⟩
  · have hj' : s.dt.live.junction = some j := hj
    have hv' : s.dt.valid = true := hv
    simp [State.startSilence, State.onLi, State.silenceTime, hj', hv', hn]
  · have hoff : (s.dt.valid && decide (s.silenceTime ≠ 0)) = false := by
      rcases h with hv | h
      · rw [show s.dt.valid = false from hv]
        rfl
      · cases hj : s.dt.live.junction with
        | none => simp [State.silenceTime, hj]
        | some j => simp [State.silenceTime, hj, h j hj]
    unfold State.startSilence State.onLi
    dsimp only
    rw [hoff]
    exact ⟨rfl, rfl⟩

theorem startSilence_frame (s : State) :
    s.startSilence = { s with
      li := { s.li with silence := s.startSilence.li.silence, remaining := s.startSilence.li.remaining } } := by
  unfold State.startSilence State.onLi
  dsimp only
  split <;> rfl

/-- Auto-start judged, the silence timer started and the commands brought up to date: the end of a reset in DARK. -/
structure ResetEnds (s t : State) : Prop where
  rest : t = { s with li := t.li, ob := t.ob, pu := t.pu, csu := t.csu, fru := t.fru }
  li : t.li = { s.li with silence := t.li.silence, remaining := t.li.remaining }
  fru : t.fru = { s.fru with autoAwaited := t.fru.autoAwaited }
  auto : ∀ j, s.dt.live.junction = some j → t.fru.autoAwaited = (s.dt.valid && j.autoStart)
  noAuto : s.dt.live.junction = none → t.fru.autoAwaited = false
  silence : SilenceStarts t
  circuits : t.pu.circuits = tmap s.pu.circuits fun c r => { r with flashing := s.isFlashing c }

theorem resetEnds {s : State} (h : s.fru.mode = .dark) : ResetEnds s (s.judgeAutoStart.startSilence).finish := by
  have hmode : s.judgeAutoStart.startSilence.fru.mode = .dark := by rw [startSilence_frame]; exact h
  rw [finish_quiet (by rw [hmode]; decide) (by rw [hmode]; decide)]
  have hfr := startSilence_frame s.judgeAutoStart
  have hst := startSilence_starts s.judgeAutoStart
  generalize s.judgeAutoStart.startSilence = u at *
  have hfru : u.refreshCommands.fru = s.judgeAutoStart.fru := by rw [hfr]; rfl
  refine ⟨by rw [hfr]; rfl, by rw [hfr]; rfl, by rw [hfr]; rfl, fun j hj => ?_, fun hj => ?_,
    silenceStarts_congr rfl rfl rfl hst, by rw [hfr]; rfl⟩
  · rw [hfru]
    simp [State.judgeAutoStart, State.onFru, hj]
  · rw [hfru]
    simp [State.judgeAutoStart, State.onFru, hj]

/-! ### The blocks of a soft reset before what stands is raised again -/

/-- The receiver, the queue and the fault table as they start. -/
def State.softStarted (s : State) : State :=
  ((s.onLi Link.softReset_).onRu Recording.softReset).onFru Response.softReset

/-- The junction then DARK with the contactor ordered open. -/
def State.softDarkened (s : State) : State := (s.softStarted.enterMode .dark).onSpc Supply.orderOpen

/-- The records started anew, the waits withdrawn and the recalls reapplied. -/
def State.softBlocks (s : State) : State :=
  (s.softDarkened.softRecords.onRu fun r =>
    { r with groups := tmap r.groups fun _ v => { v with wait := none } }).restartDemand.refreshPresence

/-- The faults that stand raised again: DEFINITION_INVALID, then STORE_FAULT (R1, R175). -/
def State.softRaises (s : State) : State :=
  (s.when (!s.dt.valid) fun s => s.raise .junction .definitionInvalid).when
    (s.when (!s.dt.valid) fun s => s.raise .junction .definitionInvalid).stc.troubled fun s => s.raise .junction .storeFault

theorem softReset_eq (s : State) : s.softReset = (s.softBlocks.softRaises.judgeAutoStart.startSilence).finish := rfl

/-- A service record after the soft reset: what it has counted, with no capture and no wait of before. -/
def SoftService (v w : GroupService) : Prop :=
  w.greens = v.greens ∧ w.greenDs = v.greenDs ∧ w.served = v.served ∧ w.capture = none

/-- What the soft reset leaves in each block before what stands is raised again. -/
structure SoftBlocks (s u : State) : Prop where
  rest : u = { s with
    li := s.li.softReset_, sc := u.sc, gs := u.gs, du := u.du, pu := u.pu, csu := u.csu, cm := u.cm, spc := u.spc
    ob := u.ob, fru := u.fru, ru := u.ru }
  mode : u.fru.mode = .dark
  start : u.fru.startRequest = false
  lockout : u.fru.lockout = []
  table : u.fru.table = []
  queue : u.ru.queue = if s.fru.mode = .dark then [] else [.mode s.uptime .dark]
  overflow : u.ru.overflow = false
  lastBatch : u.ru.lastBatch = []
  dets : u.ru.dets = s.ru.dets
  services : ∀ g v, tget? s.ru.groups g = some v → ∃ w, tget? u.ru.groups g = some w ∧ SoftService v w
  slots : u.sc.slots = s.sc.slots
  running : u.sc.stage = none ∧ u.sc.clock = 0 ∧ u.sc.hold = 0 ∧ u.sc.forced = none
  groups : ∀ g r, tget? u.gs.groups g = some r → r = .fresh (s.kindOf g).rest s.uptime
  detectors : u.du = { s.du with dets := tmap s.du.dets fun _ r => r.softReset }
  circuits : ∀ c r, tget? s.pu.circuits c = some r → ∀ rec, s.circuitRec? c = some rec →
    tget? u.pu.circuits c = some (.fresh rec r.channelOn r.reference r.recorded r.episodes r.showing)
  contactor : u.spc.contactor = s.spc.orderOpen.contactor

/-- The junction entered DARK: what `Darkened` says from the receiver and the queue as they start. -/
theorem softDarkened_darkened (s : State) : Darkened s.softStarted s.softDarkened := darkened _

theorem tget?_softService {s : State} {g : Nat} {v : GroupService} (h : tget? s.ru.groups g = some v) :
    tget? (Recording.softReset s.ru).groups g = some { v with capture := none, wait := none } := by
  simp [Recording.softReset, Recording.setQueue, h]

/-- The queue after the entry to DARK: empty, but for the notice of a change of mode. -/
theorem softDarkened_ru (s : State) :
    s.softDarkened.ru.queue = (if s.fru.mode = .dark then [] else [.mode s.uptime .dark])
      ∧ s.softDarkened.ru.overflow = false ∧ s.softDarkened.ru.lastBatch = [] ∧ s.softDarkened.ru.dets = s.ru.dets := by
  have h := (softDarkened_darkened s).ru
  generalize s.softDarkened = t at *
  rw [h]
  by_cases hd : s.fru.mode = .dark
  · rw [if_pos hd, if_pos (show s.softStarted.fru.mode = .dark from hd)]
    exact ⟨rfl, rfl, rfl, rfl⟩
  · rw [if_neg hd, if_neg (show s.softStarted.fru.mode ≠ .dark from hd)]
    exact ⟨rfl, rfl, rfl, rfl⟩

theorem softBlocks_spec (s : State) : SoftBlocks s s.softBlocks := by
  have hD := softDarkened_darkened s
  obtain ⟨hqueue, hover, hbatch, hdets⟩ := softDarkened_ru s
  unfold State.softBlocks
  generalize s.softDarkened = d at *
  have hL := latches_restartDemand (d.softRecords.onRu fun r =>
    { r with groups := tmap r.groups fun _ v => { v with wait := none } })
  have hrest := hL.rest
  have hunc := hL.uncounted
  generalize (d.softRecords.onRu fun r =>
    { r with groups := tmap r.groups fun _ v => { v with wait := none } }).restartDemand = e at *
  have hd := hD.rest
  refine ⟨?_, ?_, ?_, ?_, ?_, ?_, ?_, ?_, ?_, fun g v hv => ?_, ?_, ?_, fun g r hr => ?_, ?_, fun c r hr rec hrec => ?_, ?_⟩
  · rw [hrest, hd]; rfl
  · rw [hrest]; exact hD.mode
  · rw [hrest]; exact hD.start rfl
  · rw [hrest]; exact hD.lockout
  · rw [hrest]; exact hD.table
  · rw [hrest]; exact hqueue
  · rw [hrest]; exact hover
  · rw [hrest]; exact hbatch
  · rw [hrest]; exact hdets
  · obtain ⟨w, hw, hvw⟩ := hD.uncounted g _ (tget?_softService hv)
    obtain ⟨hc, h1, h2, h3⟩ := hvw rfl
    obtain ⟨x, hx, hwx⟩ := hunc g { w with wait := none } (by
      show tget? (tmap d.ru.groups fun _ v => ({ v with wait := none } : GroupService)) g = _
      rw [tget?_tmap, hw]
      rfl)
    obtain ⟨kc, k1, k2, k3⟩ := hwx hc
    exact ⟨x, hx, k1.trans h1, k2.trans h2, k3.trans h3, kc⟩
  · rw [hrest]; exact hD.slots
  · rw [hrest]; exact ⟨rfl, rfl, rfl, rfl⟩
  · rw [hrest] at hr
    have hr' : tget? (tmap d.gs.groups fun g _ => GroupRun.fresh (d.kindOf g).rest d.uptime) g = some r := hr
    rw [tget?_tmap] at hr'
    obtain ⟨q, -, rfl⟩ := Option.map_eq_some_iff.1 hr'
    rw [hd]
    rfl
  · rw [hrest, hd]; rfl
  · have hp : e.pu.circuits = tmap s.pu.circuits fun c r => s.circuitSoftReset c r := by rw [hrest, hd]; rfl
    show tget? e.pu.circuits c = _
    rw [hp, tget?_tmap, hr]
    simp only [State.circuitSoftReset, hrec, Option.map_some]
  · rw [hrest]
    show d.spc.contactor = _
    rw [hD.spc]
    rfl

/-! ### What stands raised again -/

/-- A notice of an entry the queue does not hold goes to its back where there is room (R167). -/
theorem noticeCreated_new {r : Recording} {key : Nat} (h : r.queue.any (Notice.isKey key) = false)
    (hroom : r.queue.length < Config.queueMax) (first partner : Nat) :
    r.noticeCreated key first partner = r.setQueue (r.queue ++ [.fault key first partner false false]) r.overflow := by
  rw [Recording.noticeCreated, h, Recording.addNotice, if_pos hroom]
  rfl

/-- What the raises of a soft reset leave: an entry and a notice for each fault that stands. -/
structure SoftRaises (s u t : State) : Prop where
  rest : t = { u with
    fru := { u.fru with table := t.fru.table }
    ru := { u.ru with queue := t.ru.queue, overflow := t.ru.overflow, attn := t.ru.attn } }
  overflow : t.ru.overflow = u.ru.overflow
  table : t.fru.table = (if s.dt.valid = false
      then [(faultKey .junction .definitionInvalid, ⟨true, true, s.uptime, s.uptime, .none, .dark, 0⟩)] else [])
    ++ (if s.stc.troubled = true
      then [(faultKey .junction .storeFault, ⟨true, true, s.uptime, s.uptime, .none, .alarm, 0⟩)] else [])
  queue : t.ru.queue = u.ru.queue
    ++ (if s.dt.valid = false then [.fault (faultKey .junction .definitionInvalid) s.uptime 0 false false] else [])
    ++ (if s.stc.troubled = true then [.fault (faultKey .junction .storeFault) s.uptime 0 false false] else [])

theorem DarkUnlocked.of_empty {s : State} (hm : s.fru.mode = .dark) (hl : s.fru.lockout = []) (ht : s.fru.table = []) :
    DarkUnlocked s := ⟨hm, hl, by simp [ht], by simp [ht]⟩

/-- The first raise of a junction fault with a fixed severity, where the queue holds no notice of it and has room. -/
theorem raise_notice_of_darkUnlocked {s : State} (h : DarkUnlocked s) {kind : FaultKind} {v : Severity}
    (hrow : rowBounds? kind .none = some ⟨v, v, v⟩) (hv : v ≠ .ignore) (hm : v.modeAfter .dark = .dark)
    (hk : kind ≠ .allLocked) (hnone : tget? s.fru.table (faultKey .junction kind) = none)
    (hq : s.ru.queue.any (Notice.isKey (faultKey .junction kind)) = false) (hroom : s.ru.queue.length < Config.queueMax) :
    s.raise .junction kind = { s with
        fru := { s.fru with
          table := tput s.fru.table (faultKey .junction kind) ⟨true, true, s.uptime, s.uptime, .none, v, 0⟩ }
        ru := s.ru.setQueue (s.ru.queue ++ [.fault (faultKey .junction kind) s.uptime 0 false false]) s.ru.overflow }
      ∧ DarkUnlocked (s.raise .junction kind) := by
  obtain ⟨he, hd⟩ := raise_of_darkUnlocked h hrow hv hm hk hnone
  exact ⟨by rw [he, noticeCreated_new hq hroom], hd⟩

/-- DEFINITION_INVALID raised again where the definition is INVALID. -/
theorem softRaise_definition {s u : State} (hb : SoftBlocks s u) :
    let t := u.when (!u.dt.valid) fun s => s.raise .junction .definitionInvalid
    DarkUnlocked t ∧ t = { u with
        fru := { u.fru with table := t.fru.table }
        ru := { u.ru with queue := t.ru.queue, overflow := t.ru.overflow, attn := t.ru.attn } }
      ∧ t.ru.overflow = u.ru.overflow
      ∧ t.fru.table = (if s.dt.valid = false
        then [(faultKey .junction .definitionInvalid, ⟨true, true, s.uptime, s.uptime, .none, .dark, 0⟩)] else [])
      ∧ t.ru.queue = u.ru.queue ++ (if s.dt.valid = false
        then [.fault (faultKey .junction .definitionInvalid) s.uptime 0 false false] else []) := by
  have hdark : DarkUnlocked u := .of_empty hb.mode hb.lockout hb.table
  have hdt : u.dt = s.dt := by rw [hb.rest]
  have hup : u.uptime = s.uptime := by rw [hb.rest]
  dsimp only
  rw [show u.dt.valid = s.dt.valid by rw [hdt]]
  cases hv : s.dt.valid with
  | true => exact ⟨hdark, rfl, rfl, by simp [State.when, hb.table], by simp [State.when]⟩
  | false =>
    have hempty : u.ru.queue.any (Notice.isKey (faultKey .junction .definitionInvalid)) = false := by
      rw [hb.queue]
      split <;> rfl
    have hroom : u.ru.queue.length < Config.queueMax := by
      rw [hb.queue]
      split <;> simp [Config.queueMax]
    obtain ⟨he, hd⟩ := raise_notice_of_darkUnlocked hdark (kind := .definitionInvalid) (v := .dark) (by decide) (by decide)
      (by decide) (by decide) (by simp [hb.table]) hempty hroom
    refine ⟨hd, ?_⟩
    have hwhen : u.when (!false) (fun s => s.raise .junction .definitionInvalid) = u.raise .junction .definitionInvalid := rfl
    rw [hwhen, he]
    refine ⟨rfl, rfl, ?_, ?_⟩
    · show tput u.fru.table _ _ = _
      rw [hb.table, hup]
      rfl
    · show u.ru.queue ++ [_] = _
      rw [hup]
      rfl

theorem softRaises_spec {s u : State} (hb : SoftBlocks s u) : SoftRaises s u u.softRaises := by
  obtain ⟨hdark, hrest, hover, htable, hqueue⟩ := softRaise_definition hb
  unfold State.softRaises
  generalize (u.when (!u.dt.valid) fun s => s.raise .junction .definitionInvalid) = t at *
  have hstc : t.stc = s.stc := by rw [hrest, hb.rest]
  have hup : t.uptime = s.uptime := by rw [hrest, hb.rest]
  rw [hstc]
  cases hv : s.stc.troubled with
  | false => exact ⟨hrest, hover, by simp [State.when, hv, htable], by simp [State.when, hv, hqueue]⟩
  | true =>
    have hnone : tget? t.fru.table (faultKey .junction .storeFault) = none := by
      rw [htable]
      split <;> rfl
    have hempty : t.ru.queue.any (Notice.isKey (faultKey .junction .storeFault)) = false := by
      rw [hqueue, hb.queue]
      split <;> split <;> rfl
    have hroom : t.ru.queue.length < Config.queueMax := by
      rw [hqueue, hb.queue]
      split <;> split <;> simp [Config.queueMax]
    obtain ⟨he, -⟩ := raise_notice_of_darkUnlocked hdark (kind := .storeFault) (v := .alarm) (by decide) (by decide)
      (by decide) (by decide) hnone hempty hroom
    have hwhen : t.when true (fun s => s.raise .junction .storeFault) = t.raise .junction .storeFault := rfl
    rw [hwhen, he]
    refine ⟨by rw [hrest]; rfl, hover, ?_, ?_⟩
    · show tput t.fru.table _ _ = _
      rw [htable, hup, if_pos hv]
      split <;> rfl
    · show t.ru.queue ++ [_] = _
      rw [hqueue, hup, if_pos hv]

/-! ### The soft reset -/

theorem orderOpen_contactor (p : Supply) :
    (p.contactor = .closing ∨ p.contactor = .closed → p.orderOpen.contactor = .opening)
      ∧ (p.contactor = .opened ∨ p.contactor = .opening → p.orderOpen.contactor = p.contactor) := by
  cases h : p.contactor <;> simp [Supply.orderOpen, Supply.setContactor, h]

/-- SOFT_RESET replied OK and nothing else: the reset is owed once the reply has been sent. -/
theorem reqSoftReset_replied {s : State} (h : Addressed s) :
    Replied s.reqSoftReset 0x31 [0#8] ∧ s.reqSoftReset
      = { s with li := { s.li with reply := s.reqSoftReset.li.reply, held := none, softReset := .replying } } :=
  ⟨replied_of_replyTo h rfl rfl, rfl⟩

theorem kindOf_of_dt {s t : State} (h : t.dt = s.dt) (g : Nat) : t.kindOf g = s.kindOf g := by
  rw [State.kindOf, State.kindOf, State.groupRec?, State.groupRec?, h]

/-- A detector's record at a soft reset, field by field. -/
theorem tget?_softDetector {s : State} {d : Nat} {r : DetRun} (h : tget? s.du.dets d = some r) :
    tget? (tmap s.du.dets fun _ r => r.softReset) d = some
      { level := false, raw := r.raw, run := 0, presence := 0, gap := none, absence := 0,
        activations := r.activations, occupied := r.occupied, classCount := r.classCount } := by
  rw [tget?_tmap, h]
  rfl

/-- Settles O18: the reply (`reqSoftReset_replied`), and the reset as the blocks start (`softBlocks_spec`), what stands is raised
again (`softRaises_spec`) and the reset ends (`resetEnds`). -/
theorem softResetRepliesThenActs : Obligations.SoftResetRepliesThenActs := by
  refine ⟨fun s => ⟨fun h => ⟨_, exec_softReset h, reqSoftReset_replied h.1⟩, ⟨_, exec_replySent s, rfl⟩⟩, fun s =>
    ⟨fun h => ⟨_, exec_softResetAction_owed h, ?_⟩, exec_softResetAction_not_owed⟩⟩
  rw [softReset_eq]
  have hb := softBlocks_spec s
  generalize s.softBlocks = u at *
  have hr := softRaises_spec hb
  generalize u.softRaises = v at *
  have hE := resetEnds (s := v) (by rw [hr.rest]; exact hb.mode)
  generalize (v.judgeAutoStart.startSilence).finish = t at *
  have hli : v.li = s.li.softReset_ := by rw [hr.rest, hb.rest]
  have hdt : v.dt = s.dt := by rw [hr.rest, hb.rest]
  have hpu : v.pu = u.pu := by rw [hr.rest]
  have hgs : t.gs = u.gs := by rw [hE.rest, hr.rest]
  have hdu : t.du = u.du := by rw [hE.rest, hr.rest]
  have hsc : t.sc = u.sc := by rw [hE.rest, hr.rest]
  have hspc : t.spc = u.spc := by rw [hE.rest, hr.rest]
  have hru : t.ru = v.ru := by rw [hE.rest]
  have htdt : t.dt = s.dt := by rw [hE.rest]; exact hdt
  have hrun := hr.rest
  obtain ⟨hopens, hstands⟩ := orderOpen_contactor s.spc
  refine ⟨?_, ?_, ?_, ?_, ?_, ?_, ?_, ?_, hE.silence, ?_, ?_, ?_, ?_, ?_, fun d r hd => ?_, ?_, ?_, ?_, fun g x hg => ?_,
    ?_, ?_, ?_, ?_, ?_, fun g r hg => ?_, fun c r hc rec hrec => ?_, htdt, ?_, ?_, ?_, ?_, ?_⟩
  · rw [hE.li, hli]; rfl
  · rw [hE.li, hli]; rfl
  · rw [hE.li, hli]; rfl
  · rw [hE.fru, hrun]; exact hb.mode
  · rw [hE.fru, hrun]; exact hb.start
  · rw [hE.fru, hrun]; exact hb.lockout
  · rw [← hdt]; exact hE.auto
  · rw [← hdt]; exact hE.noAuto
  · rw [hE.fru]; exact hr.table
  · rw [hspc, hb.contactor]; exact hopens
  · rw [hspc, hb.contactor]; exact hstands
  · rw [hru, hr.queue, hb.queue]
  · rw [hdu, hb.detectors]
  · rw [hdu, hb.detectors]; exact tget?_softDetector hd
  · rw [hru, hr.overflow, hb.overflow]
  · rw [hru, hrun]; exact hb.lastBatch
  · rw [hru, hrun]; exact hb.dets
  · rw [hru, hrun]; exact hb.services g x hg
  · rw [hsc]; exact hb.slots
  · rw [hsc]; exact hb.running.1
  · rw [hsc]; exact hb.running.2.1
  · rw [hsc]; exact hb.running.2.2.1
  · rw [hsc]; exact hb.running.2.2.2
  · rw [hgs] at hg
    rw [hb.groups g r hg, kindOf_of_dt htdt]
    exact ⟨rfl, rfl⟩
  · refine ⟨{ CircuitRun.fresh rec r.channelOn r.reference r.recorded r.episodes r.showing with flashing := v.isFlashing c },
      ?_, rfl, rfl, rfl⟩
    rw [hE.circuits, tget?_tmap, hpu, hb.circuits c r hc rec hrec]
    rfl
  · rw [hE.rest, hr.rest, hb.rest]
  · rw [hE.rest, hr.rest, hb.rest]
  · rw [hE.rest, hr.rest, hb.rest]
  · rw [hE.li, hli]; rfl
  · rw [hE.li, hli]; rfl

end Sys2Proof.Machine
end

section
/-! PROOFS. POWER_UP_LOAD in a state that no run reaches: a fault table with two entries of one key, where R129 has one. -/

namespace Sys2Proof.Machine

open Sys2Proof.Claims

/-- The image of a definition without records, with its identity 0. -/
def emptyImage : ImageContent := .definition .empty 0

/-- The area of the definition holding that image whole. -/
def wholeArea : Area := ⟨.intact, false, .none, some emptyImage, emptyImage.crc, []⟩

/-- The junction after a hard reset, with that image stored, but for a fault table with two entries of DEFINITION_INVALID: one not
live whose row does not exist, and behind it a live one. -/
def doubledFault : State :=
  { State.reset with
    stc := { State.reset.stc with areas := tupd State.reset.stc.areas 1 fun _ => wholeArea }
    fru := { State.reset.fru with table :=
      [(faultKey .junction .definitionInvalid, ⟨false, true, 0, 0, .vRed, .dark, 0⟩),
       (faultKey .junction .definitionInvalid, ⟨true, true, 0, 0, .none, .dark, 0⟩)] } }

theorem doubledFault_shaped : doubledFault.Shaped := by
  unfold State.Shaped
  decide +kernel

theorem doubledFault_findsWhole : FindsWhole doubledFault [] 1 emptyImage :=
  ⟨by simp, wholeArea, rfl, rfl, rfl, rfl⟩

/-- The re-rating deletes the first entry, whose row is IGNORE, and so uncovers the live one. -/
theorem doubledFault_live : (doubledFault.powerUp []).isLive .junction .definitionInvalid = true := by decide +kernel

theorem exec_powerUpLoad {s : State} (h : s.loading = true) (failing : List Nat) :
    exec (.powerUpLoad failing) s = .next (s.powerUp failing) := by
  show Host.Outcome.next (s.when s.loading fun s => s.powerUp failing) = _
  rw [h]
  rfl

/-- What the statement says of DEFINITION_INVALID after a load that finds a definition. -/
theorem definition_valid_of_hardResetAndLoad (h : Obligations.HardResetAndLoad) {s : State} {failing : List Nat} (hs : s.Shaped)
    (hl : s.loading = true) (hm : s.fru.mode = .dark) (hf : s.stc.flight = none) {d : DefSet} {id : BitVec 32}
    (hx : FindsWhole s failing 1 (.definition d id)) : (s.powerUp failing).isLive .junction .definitionInvalid = false := by
  obtain ⟨-, hload⟩ := h
  obtain ⟨htaken, -⟩ := hload s
  obtain ⟨t, ht, -, -, -, -, -, -, hdefinition, -⟩ := htaken failing hs hl hm hf
  rw [exec_powerUpLoad hl] at ht
  cases ht
  obtain ⟨-, -, hinvalid, -⟩ := hdefinition d id hx
  exact hinvalid

/-- Refutes O17: no premise of the load says that the fault table holds one entry a key (`State.FaultsInOrder`), and in
`doubledFault` DEFINITION_INVALID is live after a load that finds the definition whole. -/
theorem not_hardResetAndLoad : ¬ Obligations.HardResetAndLoad := by
  intro h
  have hno := definition_valid_of_hardResetAndLoad h doubledFault_shaped rfl rfl rfl doubledFault_findsWhole
  rw [doubledFault_live] at hno
  cases hno

end Sys2Proof.Machine
end
